-- ==== Sys2Proof/Word.lean ====
section
/-! DEFINITION. The words of the block: the unsigned fields of 00_scope.md R7 and R10. -/

namespace Sys2Proof

/-- A byte on the wire (u8, R10). -/
abbrev Byte := BitVec 8

/-- A register of the chip (REG_W = 16, R7). -/
abbrev Half := BitVec 16

/-- A register address (ADDR_W = 7, R7, R41). -/
abbrev Addr := BitVec 7

/-- A host command word (R66). -/
abbrev Word := BitVec 32

end Sys2Proof
end

