-- ==== Sys2Proof/Config.lean ====
section
/-! DEFINITION. What an instance of the block is built with: the fixed parameters of 00_scope.md R7 and the
configuration parameters of R8. No command writes them (R9). The values R8 leaves OPEN are opaque constants. -/

namespace Sys2Proof

/-- `P_DIV`, the divisor of active power: 1 or 1000 (R8, R98, D17). -/
inductive PDiv where
  | one
  | thousand
  deriving DecidableEq, Repr, Inhabited

/-- The two allowed values of `MEAS_MAP` (20_memory.md R44, D19): the data-sheet order, the default, and the
source's listing order. -/
inductive MeasMap where
  | datasheet
  | listing
  deriving DecidableEq, Repr, Inhabited

/-- The configuration parameters of R8. Times are microseconds (R14). -/
structure Config where
  /-- `T_PRE`, at least `tPreMin` -/
  tPre : Nat
  /-- `T_HDR`, at least `tHdrMin` -/
  tHdr : Nat
  /-- `T_POST`, at least `tPostMin` -/
  tPost : Nat
  /-- `T_DATA`, 0 skips the step -/
  tData : Nat
  /-- `T_GAP`, 0 skips the step -/
  tGap : Nat
  /-- `DUMMY`, the byte sent in a READ frame's data phase -/
  dummy : Byte
  /-- `VGAIN_NUM` -/
  vgainNum : Half
  /-- `VGAIN_DEN` less 1: R8 makes the parameter a u16 that is not 0, so it is one of 1 to 65535, and no
  configuration with the value 0 can be written. Read it through `Config.vgainDen`. -/
  vgainDenLess1 : Fin 65535
  /-- `P_DIV` -/
  pDiv : PDiv
  /-- `MEAS_MAP` -/
  measMap : MeasMap
  deriving DecidableEq, Repr

namespace Config

/-- `T_PRE_MIN` (R7). -/
def tPreMin : Nat := 5
/-- `T_HDR_MIN` (R7). -/
def tHdrMin : Nat := 4
/-- `T_POST_MIN` (R7). -/
def tPostMin : Nat := 5

/-- `VGAIN_DEN` (R8): a u16 that is not 0. -/
def vgainDen (c : Config) : Nat := c.vgainDenLess1.val + 1

/-- `VGAIN_NUM` of the instance that `State.reset` stands for: OPEN in R8 (D16), so an opaque constant. -/
opaque openVgainNum : Half

/-- `VGAIN_DEN` less 1 of the instance that `State.reset` stands for: OPEN in R8 (D16), so an opaque constant. -/
opaque openVgainDenLess1 : Fin 65535

/-- `P_DIV` of the instance that `State.reset` stands for: OPEN in R8 (D17), so an opaque constant. -/
opaque openPDiv : PDiv

/-- The defaults of R8, the OPEN parameters at their opaque constants. -/
def default : Config :=
  { tPre := 5, tHdr := 4, tPost := 5, tData := 0, tGap := 0, dummy := 0x00#8,
    vgainNum := openVgainNum, vgainDenLess1 := openVgainDenLess1, pDiv := openPDiv, measMap := .datasheet }

/-- The minima of 40_register_link.md R77: an instance that fails this is not a valid instance. -/
def timingOk (c : Config) : Bool :=
  decide (tPreMin ≤ c.tPre) && decide (tHdrMin ≤ c.tHdr) && decide (tPostMin ≤ c.tPost)

end Config

end Sys2Proof
end

