-- ==== Sys2Proof/Syntax.lean ====
section
/-! DEFINITION. The instructions: one constructor per row of spec/opcode_table.json (30_encoding.md R63, R68), the
words they are put to the block in, and the names of what decoding rejects. -/

namespace Sys2Proof

/-- The fourteen quantities of 42_measurement.md R95, in the order of their codes. -/
inductive Quantity where
  | v | i | p | q | s | f | pf | pa | eaf | ear | eaa | erf | err | era
  deriving DecidableEq, Repr

/-- One constructor per row of spec/opcode_table.json. The first 32 are the host commands of R68; the last two
are the wire headers of R63, each standing for the frame it heads (R64, R75). -/
inductive Instr where
  /-- READ a (R82) -/
  | read (a : Addr)
  /-- WRITE a, v (R83) -/
  | write (a : Addr) (v : Half)
  /-- CS1 (R91) -/
  | cs1
  /-- CS2 (R92) -/
  | cs2
  /-- MEAS.V (R109) -/
  | measV
  /-- MEAS.I (R110) -/
  | measI
  /-- MEAS.P (R111) -/
  | measP
  /-- MEAS.Q (R112) -/
  | measQ
  /-- MEAS.S (R113) -/
  | measS
  /-- MEAS.F (R114) -/
  | measF
  /-- MEAS.PF (R115) -/
  | measPF
  /-- MEAS.PA (R116) -/
  | measPA
  /-- MEAS.EAF (R117) -/
  | measEAF
  /-- MEAS.EAR (R118) -/
  | measEAR
  /-- MEAS.EAA (R119) -/
  | measEAA
  /-- MEAS.ERF (R120) -/
  | measERF
  /-- MEAS.ERR (R121) -/
  | measERR
  /-- MEAS.ERA (R122) -/
  | measERA
  /-- CONV.V r (R124) -/
  | convV (r : Half)
  /-- CONV.I r (R125) -/
  | convI (r : Half)
  /-- CONV.P r (R126) -/
  | convP (r : Half)
  /-- CONV.Q r (R127) -/
  | convQ (r : Half)
  /-- CONV.S r (R128) -/
  | convS (r : Half)
  /-- CONV.F r (R129) -/
  | convF (r : Half)
  /-- CONV.PF r (R130) -/
  | convPF (r : Half)
  /-- CONV.PA r (R131) -/
  | convPA (r : Half)
  /-- CONV.EAF r (R132) -/
  | convEAF (r : Half)
  /-- CONV.EAR r (R133) -/
  | convEAR (r : Half)
  /-- CONV.EAA r (R134) -/
  | convEAA (r : Half)
  /-- CONV.ERF r (R135) -/
  | convERF (r : Half)
  /-- CONV.ERR r (R136) -/
  | convERR (r : Half)
  /-- CONV.ERA r (R137) -/
  | convERA (r : Half)
  /-- FRAME.READ_HEADER: the READ frame of R64 for address `a`, put straight to the serializer -/
  | frameRead (a : Addr)
  /-- FRAME.WRITE_HEADER: the WRITE frame of R64 for address `a` and value `v`, put straight to the serializer -/
  | frameWrite (a : Addr) (v : Half)
  deriving DecidableEq, Repr

/-- What is put to the block: a host command word (R66), or, for the wire-header rows of the opcode table, a
frame's header byte with the 16 bits of its data phase (R64; a READ frame sends DUMMY there and takes no data). -/
inductive Request where
  | command (w : Word)
  | frame (header : Byte) (data : Half)
  deriving DecidableEq, Repr

/-- The rows of R68 by the fields they use. -/
inductive OpClass where
  | read | write | cs1 | cs2
  | meas (k : Quantity)
  | conv (k : Quantity)
  deriving DecidableEq, Repr

/-- Why a command word is illegal: the four checks of R69 that raise IllegalCommand, in their order. -/
inductive Illegal where
  /-- the OP field is not in the table of R68 -/
  | unknownOpcode
  /-- bit 23, RSV, is not 0 -/
  | reservedBit
  /-- the ADDR field is not 0 and the command does not use it -/
  | unusedAddr
  /-- the DATA field is not 0 and the command does not use it -/
  | unusedData
  deriving DecidableEq, Repr

end Sys2Proof
end

