-- ==== Sys2Proof/Machine/Operands.lean ====
section
/-! DEFINITION. The operand forms: field widths and signs (00_scope.md R10, R11), byte order (20_memory.md R49),
the header byte (30_encoding.md R63), the address classes (R42), quantity codes and addresses (R44, R45, R95). -/

namespace Sys2Proof.Machine

/-- `zext(v)` (R11). -/
def zext (v : Half) : Int := (v.toNat : Int)

/-- `sext_16(v)` (R11): two's complement. -/
def sext16 (v : Half) : Int := if v.getLsbD 15 then zext v - 65536 else zext v

/-- `v[14:0]` as an unsigned number, the magnitude field of R11 and R101. -/
def magnitude (v : Half) : Int := ((v.extractLsb' 0 15).toNat : Int)

/-- `sm_16(v)` (R11): signed magnitude, bit 15 the sign. -/
def sm16 (v : Half) : Int := if v.getLsbD 15 then - magnitude v else magnitude v

/-- `first ++ second`: the value of a received pair (R10, R49). -/
def joinBytes (first second : Byte) : Half := first ++ second

/-- `v[15:8]`, sent first (R49). -/
def hiByte (v : Half) : Byte := v.extractLsb' 8 8

/-- `v[7:0]`, sent second (R49). -/
def loByte (v : Half) : Byte := v.extractLsb' 0 8

/-- The header byte `(DIR << 7) | ADDR` (R63); `true` is DIR = 1, a read. -/
def headerByte (dir : Bool) (a : Addr) : Byte := BitVec.ofBool dir ++ a

/-- The read/write configuration and calibration class, 0x00 to 0x3B (R42). -/
def inConfigClass (a : Addr) : Bool := decide (a.toNat ≤ 0x3B)

/-- The read-only measurement and energy class, 0x40 to 0x6F (R42). -/
def inMeasureClass (a : Addr) : Bool := decide (0x40 ≤ a.toNat) && decide (a.toNat ≤ 0x6F)

/-- The column "block may read" of R42. -/
def readable (a : Addr) : Bool := inConfigClass a || inMeasureClass a

/-- The column "block may write" of R42. -/
def writable (a : Addr) : Bool := inConfigClass a

/-- The quantity codes of R95: the low four bits of the MEAS and CONV opcodes. -/
def quantityCode : Quantity → BitVec 4
  | .v => 0x0 | .i => 0x1 | .p => 0x2 | .q => 0x3 | .s => 0x4 | .f => 0x5 | .pf => 0x6 | .pa => 0x7
  | .eaf => 0x8 | .ear => 0x9 | .eaa => 0xA | .erf => 0xB | .err => 0xC | .era => 0xD

/-- `MEAS_MAP(q)`: V and I as the source gives them, the energies in R45's order, the six of R44 in either of
its two orders. -/
def measAddr : MeasMap → Quantity → Addr
  | _, .v => 0x49 | _, .i => 0x48
  | _, .eaf => 0x40 | _, .ear => 0x41 | _, .eaa => 0x42 | _, .erf => 0x43 | _, .err => 0x44 | _, .era => 0x45
  | _, .p => 0x4A | _, .q => 0x4B
  | .datasheet, .f => 0x4C | .datasheet, .pf => 0x4D | .datasheet, .pa => 0x4E | .datasheet, .s => 0x4F
  | .listing, .s => 0x4C | .listing, .f => 0x4D | .listing, .pf => 0x4E | .listing, .pa => 0x4F

/-- The number `P_DIV` stands for (R8, R98). -/
def pDivValue : PDiv → Nat
  | .one => 1
  | .thousand => 1000

end Sys2Proof.Machine
end

