-- ==== Sys2Proof/WellFormed.lean ====
section
/-! DEFINITION. When an instruction is one the block performs: its register address is one R42 allows for its
direction (30_encoding.md R65, R69). Field widths are in the types. -/

namespace Sys2Proof

/-- READ and a READ frame name a readable register, WRITE and a WRITE frame a writable one (R42, R54, R65);
every other instruction has no operand the spec restricts. -/
def Instr.wellFormed : Instr → Bool
  | .read a => Machine.readable a
  | .write a _ => Machine.writable a
  | .frameRead a => Machine.readable a
  | .frameWrite a _ => Machine.writable a
  | .cs1 | .cs2
  | .measV | .measI | .measP | .measQ | .measS | .measF | .measPF | .measPA
  | .measEAF | .measEAR | .measEAA | .measERF | .measERR | .measERA
  | .convV _ | .convI _ | .convP _ | .convQ _ | .convS _ | .convF _ | .convPF _ | .convPA _
  | .convEAF _ | .convEAR _ | .convEAA _ | .convERF _ | .convERR _ | .convERA _ => true

end Sys2Proof
end

