-- ==== Sys2Proof/Decode.lean ====
section
/-! DEFINITION. Decoding of what is put to the block (30_encoding.md R66 to R71 for command words, R63 and R64 for
wire frames), total, rejecting by name; after it the encoder, written from the same tables. -/

namespace Sys2Proof

/-- `CMD[31:24]`, OP (R66). -/
def cmdOp (w : Word) : BitVec 8 := w.extractLsb' 24 8

/-- `CMD[23]`, RSV (R66). -/
def cmdRsv (w : Word) : Bool := w.getLsbD 23

/-- `CMD[22:16]`, ADDR (R66, R67). -/
def cmdAddr (w : Word) : Addr := w.extractLsb' 16 7

/-- `CMD[15:0]`, DATA (R66, R67). -/
def cmdData (w : Word) : Half := w.extractLsb' 0 16

/-- The OP column of R68. -/
def opClass (op : BitVec 8) : Option OpClass :=
  match op.toNat with
  | 0x01 => some .read
  | 0x02 => some .write
  | 0x08 => some .cs1
  | 0x09 => some .cs2
  | 0x10 => some (.meas .v)
  | 0x11 => some (.meas .i)
  | 0x12 => some (.meas .p)
  | 0x13 => some (.meas .q)
  | 0x14 => some (.meas .s)
  | 0x15 => some (.meas .f)
  | 0x16 => some (.meas .pf)
  | 0x17 => some (.meas .pa)
  | 0x18 => some (.meas .eaf)
  | 0x19 => some (.meas .ear)
  | 0x1A => some (.meas .eaa)
  | 0x1B => some (.meas .erf)
  | 0x1C => some (.meas .err)
  | 0x1D => some (.meas .era)
  | 0x20 => some (.conv .v)
  | 0x21 => some (.conv .i)
  | 0x22 => some (.conv .p)
  | 0x23 => some (.conv .q)
  | 0x24 => some (.conv .s)
  | 0x25 => some (.conv .f)
  | 0x26 => some (.conv .pf)
  | 0x27 => some (.conv .pa)
  | 0x28 => some (.conv .eaf)
  | 0x29 => some (.conv .ear)
  | 0x2A => some (.conv .eaa)
  | 0x2B => some (.conv .erf)
  | 0x2C => some (.conv .err)
  | 0x2D => some (.conv .era)
  | _ => none

/-- Whether the "fields used" column of R68 has ADDR. -/
def usesAddr : OpClass → Bool
  | .read | .write => true
  | .cs1 | .cs2 | .meas _ | .conv _ => false

/-- Whether the "fields used" column of R68 has DATA. -/
def usesData : OpClass → Bool
  | .write | .conv _ => true
  | .read | .cs1 | .cs2 | .meas _ => false

/-- MEAS.q by its quantity (R108). -/
def measInstr : Quantity → Instr
  | .v => .measV | .i => .measI | .p => .measP | .q => .measQ | .s => .measS | .f => .measF | .pf => .measPF
  | .pa => .measPA | .eaf => .measEAF | .ear => .measEAR | .eaa => .measEAA | .erf => .measERF
  | .err => .measERR | .era => .measERA

/-- CONV.q by its quantity (R123). -/
def convInstr (r : Half) : Quantity → Instr
  | .v => .convV r | .i => .convI r | .p => .convP r | .q => .convQ r | .s => .convS r | .f => .convF r
  | .pf => .convPF r | .pa => .convPA r | .eaf => .convEAF r | .ear => .convEAR r | .eaa => .convEAA r
  | .erf => .convERF r | .err => .convERR r | .era => .convERA r

/-- The instruction of a row of R68 with its operands (R67). -/
def classInstr (a : Addr) (v : Half) : OpClass → Instr
  | .read => .read a
  | .write => .write a v
  | .cs1 => .cs1
  | .cs2 => .cs2
  | .meas k => measInstr k
  | .conv k => convInstr v k

/-- R69's checks on the encoding, in its order. The two address checks of R69 raise InvalidAddress, not
IllegalCommand; READ and WRITE make them themselves (R82, R83, R141). -/
def decodeCommand (w : Word) : Except Illegal Instr :=
  match opClass (cmdOp w) with
  | none => .error .unknownOpcode
  | some c =>
    if cmdRsv w then .error .reservedBit
    else if !usesAddr c && cmdAddr w != 0 then .error .unusedAddr
    else if !usesData c && cmdData w != 0 then .error .unusedData
    else .ok (classInstr (cmdAddr w) (cmdData w) c)

/-- A frame by its header (R63): bit 7 is DIR, bits 6:0 are ADDR. -/
def decodeFrame (header : Byte) (data : Half) : Instr :=
  if header.getLsbD 7 then .frameRead (header.extractLsb' 0 7) else .frameWrite (header.extractLsb' 0 7) data

/-- The decoder: what the block makes of a request. -/
def decode : Request → Except Illegal Instr
  | .command w => decodeCommand w
  | .frame header data => .ok (decodeFrame header data)

/-- The instruction read from a row's word, numbered as spec/opcode_table.json numbers its bits: 32 bits are a
command word; 8 bits are a frame's header byte, the bits of the data phase above it being 0. -/
def decodeTableWord (nbits w : Nat) : Option Instr :=
  if nbits = 32 then (decode (.command (BitVec.ofNat 32 w))).toOption
  else if nbits = 8 then (decode (.frame (BitVec.ofNat 8 w) 0)).toOption
  else none

/-- The word of R66: OP, RSV = 0, ADDR, DATA. -/
def commandWord (op : BitVec 8) (a : Addr) (v : Half) : Word := op ++ 0#1 ++ a ++ v

/-- The opcode of MEAS.q: 0x10 with the quantity code in its low four bits (R67, R68). -/
def measOp (k : Quantity) : BitVec 8 := 0x1#4 ++ Machine.quantityCode k

/-- The opcode of CONV.q: 0x20 with the quantity code in its low four bits (R67, R68). -/
def convOp (k : Quantity) : BitVec 8 := 0x2#4 ++ Machine.quantityCode k

/-- The word of MEAS.q. -/
def measRequest (k : Quantity) : Request := .command (commandWord (measOp k) 0 0)

/-- The word of CONV.q r. -/
def convRequest (k : Quantity) (r : Half) : Request := .command (commandWord (convOp k) 0 r)

/-- The encoder (R63, R64, R66 to R68, R72). -/
def encode : Instr → Request
  | .read a => .command (commandWord 0x01 a 0)
  | .write a v => .command (commandWord 0x02 a v)
  | .cs1 => .command (commandWord 0x08 0 0)
  | .cs2 => .command (commandWord 0x09 0 0)
  | .measV => measRequest .v
  | .measI => measRequest .i
  | .measP => measRequest .p
  | .measQ => measRequest .q
  | .measS => measRequest .s
  | .measF => measRequest .f
  | .measPF => measRequest .pf
  | .measPA => measRequest .pa
  | .measEAF => measRequest .eaf
  | .measEAR => measRequest .ear
  | .measEAA => measRequest .eaa
  | .measERF => measRequest .erf
  | .measERR => measRequest .err
  | .measERA => measRequest .era
  | .convV r => convRequest .v r
  | .convI r => convRequest .i r
  | .convP r => convRequest .p r
  | .convQ r => convRequest .q r
  | .convS r => convRequest .s r
  | .convF r => convRequest .f r
  | .convPF r => convRequest .pf r
  | .convPA r => convRequest .pa r
  | .convEAF r => convRequest .eaf r
  | .convEAR r => convRequest .ear r
  | .convEAA r => convRequest .eaa r
  | .convERF r => convRequest .erf r
  | .convERR r => convRequest .err r
  | .convERA r => convRequest .era r
  | .frameRead a => .frame (Machine.headerByte true a) 0
  | .frameWrite a v => .frame (Machine.headerByte false a) v

end Sys2Proof
end

