-- ==== Sys2Proof/Machine/State.lean ====
section
/-! DEFINITION. The machine's state: every register of 10_state.md, the instance's configuration, the inputs of the
block, and the model's own fields; the reasons a step stops; the state after reset (R28, R158). -/

namespace Sys2Proof.Machine

/-- `STATE` (R19). -/
inductive RunState where
  | idle
  | busy
  deriving DecidableEq, Repr

/-- The values of `STATUS.CODE` (60_exceptions.md R139), in the order of their numbers 0 to 3. -/
inductive Code where
  | ok
  | busError
  | invalidAddress
  | illegalCommand
  deriving DecidableEq, Repr

/-- What BusTransport answers to one byte exchange (R30, R32): a byte, or BusError. -/
inductive Reply where
  | byte (b : Byte)
  | busError
  deriving DecidableEq, Repr

/-- The transport operations of R30, as the trace of R31 records them: a byte exchange with the byte sent and
what was received. -/
inductive Op where
  | selAssert
  | selDeassert
  | delayUs (n : Nat)
  | xchg (out : Byte) (got : Reply)
  deriving DecidableEq, Repr

/-- The MODEL's own: which action of R37 the block does next while BUSY. `frame` is the step `MPC` names of the
frame in progress (R75), `abort` the SEL_DEASSERT of R76, `compute` a checksum accumulation or a conversion,
`finish` the end step with the code the command ends in (R36). -/
inductive Phase where
  | decode
  | frame
  | abort
  | compute
  | finish (c : Code)
  deriving DecidableEq, Repr

/-- The MODEL's own: a command that ended, as one event of the history (R146): its word, the status it ended in, and
what a host then reads in CSUM (R34, the value R162 has it write on), `none` while CSUM_V is 0. -/
structure Event where
  word : Word
  code : Code
  csum : Option Half
  deriving DecidableEq, Repr

/-- The ways the model itself stops. -/
inductive Fault where
  /-- R34: a host read of RDATA, CSUM or CONV_* while its valid bit is 0. Raised by the host's read functions
  (Machine/Port.lean), never by `step`. Safe: the spec gives the read no value. -/
  | resultNotValid
  deriving DecidableEq, Repr

/-- What the model does not admit. -/
inductive Refusal where
  /-- An instruction of the table that has no meaning yet; raised by an arm of `exec`. Safe. -/
  | notModelled (mnemonic : String)
  /-- R77 and U12: an instance whose T_PRE, T_HDR or T_POST is below its minimum is refused; raised by `step` and by
  `State.build`. Safe: the spec says such an instance is not built. -/
  | invalidInstance
  /-- R155 and U13: two instances run frames on one bus at once; raised by `stepShared`. Safe: the spec puts the
  configuration outside itself. -/
  | sharedBus
  deriving DecidableEq, Repr

/-- The state of one instance of the block. -/
structure State where
  /-- STATE (R19) -/
  st : RunState
  /-- CMD (R20) -/
  cmd : Word
  /-- SEL, `true` is asserted (R21) -/
  sel : Bool
  /-- MPC, 0 to 9 (R22) -/
  mpc : Fin 10
  /-- FIDX (R23) -/
  fidx : BitVec 4
  /-- HB (R24) -/
  hb : Byte
  /-- LB (R24) -/
  lb : Byte
  /-- SUM8 (R25) -/
  sum8 : Byte
  /-- XOR8 (R25) -/
  xor8 : Byte
  /-- RDATA (R26) -/
  rdata : Half
  /-- RDATA_V (R26) -/
  rdataValid : Bool
  /-- CSUM (R26) -/
  csum : Half
  /-- CSUM_V (R26) -/
  csumValid : Bool
  /-- CONV_M (R26) -/
  convM : Int
  /-- CONV_D (R26) -/
  convD : Nat
  /-- CONV_Q (R26) -/
  convQ : BitVec 4
  /-- CONV_V (R26) -/
  convValid : Bool
  /-- STATUS.CODE (R27) -/
  code : Code
  /-- STATUS.DONE (R27) -/
  done : Bool
  /-- the trace, oldest operation first (R31) -/
  trace : List Op
  /-- the instance's configuration (R8, R33) -/
  cfg : Config
  /-- input: what the host presents, the head first; `cmd_valid` is that there is a head (R35) -/
  port : List Request
  /-- input: BusTransport's answers to the byte exchanges to come (R18); none means it has not answered (R37) -/
  replies : List Reply
  /-- input: the block reset arrives after this many further steps of the block (R159); `none`: it does not -/
  resetIn : Option Nat
  /-- the MODEL's own: the action of R37 that is next while BUSY -/
  phase : Phase
  /-- the MODEL's own: the header and data of a frame put straight to the serializer, while it is in progress;
  `none` while a command runs -/
  wire : Option (Byte × Half)
  /-- the MODEL's own: every command that ended, oldest first (R146, notes/assumptions/20.md) -/
  history : List Event
  deriving DecidableEq, Repr

namespace State

/-- The state after reset (R28, R158) of an instance with the default configuration. The registers R28 leaves
unspecified hold 0, CONV_D holds 1 (DESIGN CHOICE, notes/assumptions/2.md); no input is placed (3, 4, 5). -/
def reset : State :=
  { st := .idle, cmd := 0, sel := false, mpc := 0, fidx := 0, hb := 0, lb := 0, sum8 := 0, xor8 := 0,
    rdata := 0, rdataValid := false, csum := 0, csumValid := false,
    convM := 0, convD := 1, convQ := 0, convValid := false, code := .ok, done := false, trace := [],
    cfg := Config.default, port := [], replies := [], resetIn := none,
    phase := .decode, wire := none, history := [] }

end State

end Sys2Proof.Machine
end

