-- ==== Sys2Proof/Machine/Flags.lean ====
section
/-! DEFINITION. The block's flags: STATUS and the valid bits (10_state.md R27, R40), and the result registers they
stand beside (R26, R29). The block has no other flags (R40). -/

namespace Sys2Proof.Machine

/-- The number of a status code (60_exceptions.md R139). -/
def codeBits : Code → BitVec 2
  | .ok => 0
  | .busError => 1
  | .invalidAddress => 2
  | .illegalCommand => 3

/-- DONE is cleared when a command is accepted (R27, R35). -/
def clearDone (s : State) : State := { s with done := false }

/-- What a host reads in CSUM: nothing while its valid bit is 0 (R34). -/
def csumReading (s : State) : Option Half := if s.csumValid then some s.csum else none

/-- STATUS of a command that ends (R36), with its event in the history (R146). A result is written before this. -/
def writeStatus (c : Code) (s : State) : State :=
  { s with code := c, done := true, history := s.history ++ [⟨s.cmd, c, csumReading s⟩] }

/-- STATUS of a bare frame that ends in an error (R145): no command ended, so the history has no event. -/
def writeWireStatus (c : Code) (s : State) : State := { s with code := c, done := true }

/-- RDATA with its valid bit (R26). -/
def writeRData (v : Half) (s : State) : State := { s with rdata := v, rdataValid := true }

/-- CSUM with its valid bit (R26). -/
def writeCsum (v : Half) (s : State) : State := { s with csum := v, csumValid := true }

/-- CONV_M, CONV_D and CONV_Q with their valid bit (R26). -/
def writeConv (k : Quantity) (p : Int × Nat) (s : State) : State :=
  { s with convM := p.1, convD := p.2, convQ := quantityCode k, convValid := true }

end Sys2Proof.Machine
end

