-- ==== Sys2Proof/Machine/Ops.lean ====
section
/-! DEFINITION. The shared operations: transport operations and the trace (10_state.md R30, R31), the frame
micro-program and its abort (40_register_link.md R75, R76), raising an error and ending (60_exceptions.md R145,
R36), the block reset (70_reset_and_hazards.md R158, R159), accepting a command (R35), and running one to its end. -/

namespace Sys2Proof.Machine

/-! ### Transport operations -/

/-- Append an operation to the trace (R31). -/
def emit (o : Op) (s : State) : State := { s with trace := s.trace ++ [o] }

/-- SEL_ASSERT (R30). -/
def selAssert (s : State) : State := emit .selAssert { s with sel := true }

/-- SEL_DEASSERT (R30). -/
def selDeassert (s : State) : State := emit .selDeassert { s with sel := false }

/-- DELAY_US(n) (R30); it always completes (R32). -/
def delayUs (n : Nat) (s : State) : State := emit (.delayUs n) s

/-- XCHG(out) (R30): the reply is the next one BusTransport gives, any at all (R18); `none` while it has given
none (R37). DESIGN CHOICE (notes/assumptions/28.md): the exchange enters the trace when it completes, with what was
received. R12 has Emit append the operation and then wait, R31 has the record hold the byte received; whether an
exchange that is issued and not yet answered already stands in the trace is left open. -/
def xchg (out : Byte) (s : State) : Option (Reply × State) :=
  match s.replies with
  | [] => none
  | r :: rest => some (r, emit (.xchg out r) { s with replies := rest })

/-- `mpc <- k` (R12). -/
def setMpc (k : Fin 10) (s : State) : State := { s with mpc := k }

/-- The next action of R37. -/
def setPhase (p : Phase) (s : State) : State := { s with phase := p }

/-! ### The frame -/

/-- The three bytes a frame sends (R64). -/
structure Frame where
  header : Byte
  b1 : Byte
  b2 : Byte
  deriving DecidableEq, Repr

/-- The READ frame of R64: the header with DIR = 1, then DUMMY twice. -/
def readFrame (c : Config) (a : Addr) : Frame := ⟨headerByte true a, c.dummy, c.dummy⟩

/-- The WRITE frame of R64: the header with DIR = 0, then the value, high byte first. -/
def writeFrame (a : Addr) (v : Half) : Frame := ⟨headerByte false a, hiByte v, loByte v⟩

/-- The start of a frame: MPC is 0 for every frame (R22). -/
def startFrame (s : State) : State := setPhase .frame (setMpc 0 s)

/-- The end of a frame (R75): MPC returns to 0, and what follows the frame is next. -/
def endFrame (after : Phase) (s : State) : State := setPhase after (setMpc 0 s)

/-- A byte exchange of a frame (R75): a byte received is kept by `keep` and goes on at `next`; BusError goes to
the abort of R76, with MPC still naming the step that failed. -/
def frameXchg (out : Byte) (keep : Byte → State → State) (next : Fin 10) (s : State) : Option State :=
  match xchg out s with
  | none => none
  | some (.byte b, s) => some (setMpc next (keep b s))
  | some (.busError, s) => some (setPhase .abort s)

/-- HB receives the first byte of the data phase (R24, R75). -/
def keepHigh (b : Byte) (s : State) : State := { s with hb := b }

/-- LB receives the second byte of the data phase (R24, R75). -/
def keepLow (b : Byte) (s : State) : State := { s with lb := b }

/-- A received byte that is discarded (R64, R75). -/
def discard (_ : Byte) (s : State) : State := s

/-- One step of the micro-program of R75, at the step `MPC` names. Step 5 is skipped when T_DATA = 0 and step 9
when T_GAP = 0. `none`: BusTransport has not completed the exchange (R37). -/
def frameStep (f : Frame) (after : Phase) (s : State) : Option State :=
  match s.mpc with
  | 0 => some (setMpc 1 (selAssert s))
  | 1 => some (setMpc 2 (delayUs s.cfg.tPre s))
  | 2 => frameXchg f.header discard 3 s
  | 3 => some (setMpc 4 (delayUs s.cfg.tHdr s))
  | 4 => frameXchg f.b1 keepHigh (if 0 < s.cfg.tData then 5 else 6) s
  | 5 => some (setMpc 6 (if 0 < s.cfg.tData then delayUs s.cfg.tData s else s))
  | 6 => frameXchg f.b2 keepLow 7 s
  | 7 => some (setMpc 8 (delayUs s.cfg.tPost s))
  | 8 => some (if 0 < s.cfg.tGap then setMpc 9 (selDeassert s) else endFrame after (selDeassert s))
  | 9 => some (endFrame after (if 0 < s.cfg.tGap then delayUs s.cfg.tGap s else s))

/-- `Abort(k)` (R76): SEL_DEASSERT at once, MPC to 0, and BusError raised. -/
def abortStep (s : State) : State := setPhase (.finish .busError) (setMpc 0 (selDeassert s))

/-! ### Errors, ends, reset, acceptance -/

/-- `raise E` (R12, R145): the command ends with E's code and does nothing else. An error jumps nowhere and saves
nothing, and no command returns from one (R146). -/
def raise (c : Code) (s : State) : State := setPhase (.finish c) s

/-- The block takes the next command: STATE <- IDLE, MPC <- 0 (R36, R145). -/
def toIdle (s : State) : State := { s with st := .idle, mpc := 0, phase := .decode, wire := none }

/-- The end step (R36, R145). A bare frame is no command: it returns without a status, and only an error of it is
reported (notes/assumptions/10.md). -/
def endCommand (c : Code) (s : State) : State :=
  match s.wire, c with
  | none, c => toIdle (writeStatus c s)
  | some _, .ok => toIdle s
  | some _, c => toIdle (writeWireStatus c s)

/-- The block reset (R158, R159): every register as R28 says, an empty trace, the configuration kept. What the host
presents and what BusTransport will answer are not the block's, and stay (notes/assumptions/5.md). -/
def blockReset (s : State) : State :=
  { State.reset with cfg := s.cfg, port := s.port, replies := s.replies }

/-- Acceptance (R35): CMD <- cmd, STATE <- BUSY, DONE <- 0; the request leaves the port. A bare frame is taken
without CMD and STATUS, which belong to commands. -/
def accept (r : Request) (s : State) : State :=
  match r with
  | .command w =>
    clearDone { s with cmd := w, st := .busy, port := s.port.tail, phase := .decode, wire := none }
  | .frame h d => { s with st := .busy, port := s.port.tail, phase := .decode, wire := some (h, d) }

/-- What the block works on: the request in progress while BUSY, the one presented while IDLE (R35). -/
def currentRequest (s : State) : Option Request :=
  match s.st with
  | .busy => some (match s.wire with
    | some (h, d) => .frame h d
    | none => .command s.cmd)
  | .idle => s.port.head?

/-- One step of the block nearer to the reset input's arrival. -/
def countDown (s : State) : State := { s with resetIn := s.resetIn.map (· - 1) }

/-! ### Building an instance, presenting a word -/

/-- Building an instance (R8, R9): refused when a delay is below its minimum (R77, U12). -/
def State.build (c : Config) : Host.Outcome State Fault Refusal :=
  if c.timingOk then .next { State.reset with cfg := c } else .refused .invalidInstance

/-- The request of a row's word (spec/opcode_table.json): 8 bits are a frame's header, anything else a command. -/
def tableRequest (nbits w : Nat) : Request :=
  if nbits = 8 then .frame (BitVec.ofNat 8 w) 0 else .command (BitVec.ofNat 32 w)

/-! ### Running an instruction -/

/-- What an instruction supplies to the block's steps (R37): its first action once decoded, the frame it sends,
what follows a frame, its internal action, and what its end step writes on success. -/
structure Micro where
  start : State → State
  send : State → Option Frame
  afterFrame : Phase
  compute : State → Option State
  commit : State → State

/-- One step of the block while BUSY (R37): one internal action or one completed transport operation. `none`: the
block waits on BusTransport, or the phase is none of the instruction's. -/
def busyStep (m : Micro) (s : State) : Option State :=
  match s.phase with
  | .decode => some (m.start s)
  | .frame => (m.send s).bind fun f => frameStep f m.afterFrame s
  | .abort => some (abortStep s)
  | .compute => m.compute s
  | .finish c => some (endCommand c (if c = .ok then m.commit s else s))

/-- The steps of the block while BUSY, at most `n`, until the command ends, or the block waits on BusTransport,
or the reset arrives (R159). -/
def drive (m : Micro) : Nat → State → State
  | 0, s => s
  | n + 1, s =>
    if s.resetIn = some 0 then blockReset s
    else match busyStep m (countDown s) with
      | none => countDown s
      | some t => if t.st = .idle then t else drive m n t

/-- More steps than any command takes (R150): CS1 takes 1 + 11 × (10 + 1) + 1 after acceptance. -/
def maxSteps : Nat := 160

/-- Run an instruction: from IDLE with its acceptance, from BUSY from where it stands. -/
def perform (r : Request) (m : Micro) (s : State) : State :=
  if s.st = .busy then drive m maxSteps s
  else if s.resetIn = some 0 then blockReset s
  else drive m maxSteps (accept r (countDown s))

/-- IDLE with nothing presented: the block waits for a command (R158), and only the reset can arrive. -/
def waitIdle (s : State) : State := if s.resetIn = some 0 then blockReset s else countDown s

/-- An illegal encoding (R142): IllegalCommand at decode, with no operation. -/
def illegalMicro : Micro :=
  { start := raise .illegalCommand, send := fun _ => none, afterFrame := .finish .ok,
    compute := fun _ => none, commit := id }

/-- The step of a request that does not decode (R142). -/
def performIllegal (r : Request) (s : State) : State := perform r illegalMicro s

end Sys2Proof.Machine
end

