-- ==== Sys2Proof/Machine/Checksum.lean ====
section
/-! DEFINITION. The checksum engine, CS1 and CS2 (41_checksum.md R85 to R92). -/

namespace Sys2Proof.Machine

/-- `CS1_BASE` (00_scope.md R7). -/
def cs1Base : Addr := 0x21
/-- `CS1_COUNT` (R7). -/
def cs1Count : Nat := 11
/-- `CS2_BASE` (R7). -/
def cs2Base : Addr := 0x31
/-- `CS2_COUNT` (R7). -/
def cs2Count : Nat := 10

/-- The first line of the Fold (R85): the accumulators and the index start at 0. -/
def clearFold (s : State) : State := { s with sum8 := 0, xor8 := 0, fidx := 0 }

/-- The accumulation of one register (R85): `+8` is addition modulo 256 (00_scope.md R10). -/
def accumulate (s : State) : State :=
  { s with sum8 := s.sum8 + s.hb + s.lb, xor8 := s.xor8 ^^^ s.hb ^^^ s.lb, fidx := s.fidx + 1 }

/-- The highest value of FIDX (10_state.md R23). -/
def fidxMax : Nat := 10

/-- FIDX after the loop, as the register holds it: R85's value where R23 admits it (CS2 ends at 10), else R23's highest
(CS1 counts to 11 and leaves 10). DESIGN CHOICE (notes/assumptions/8.md). -/
def holdIndex (s : State) : State := { s with fidx := if s.fidx.toNat ≤ fidxMax then s.fidx else BitVec.ofNat 4 fidxMax }

/-- `while FIDX < count` (R85): another READ frame, or the end. The loop ends by R85's own count, within the step; what
FIDX holds when the step is over is one of R23's values. -/
def nextRegister (count : Nat) (s : State) : State :=
  if s.fidx.toNat < count then startFrame s else setPhase (.finish .ok) (holdIndex s)

/-- The address of the frame in progress, `base + FIDX` (R23, R85). -/
def foldAddr (base : Addr) (s : State) : Addr := base + s.fidx.zeroExtend 7

/-- `CSUM <- Fold(base, count)` (R85, R91, R92): the result is `XOR8 ++ SUM8`. -/
def foldMicro (base : Addr) (count : Nat) : Micro :=
  { start := fun s => nextRegister count (clearFold s),
    send := fun s => some (readFrame s.cfg (foldAddr base s)),
    afterFrame := .compute,
    compute := fun s => some (nextRegister count (accumulate s)),
    commit := fun s => writeCsum (joinBytes s.xor8 s.sum8) s }

/-- CS1 (R91). -/
def execCs1 (s : State) : Host.Outcome State Fault Refusal :=
  .next (perform (encode .cs1) (foldMicro cs1Base cs1Count) s)

/-- CS2 (R92). -/
def execCs2 (s : State) : Host.Outcome State Fault Refusal :=
  .next (perform (encode .cs2) (foldMicro cs2Base cs2Count) s)

end Sys2Proof.Machine
end

