-- ==== Sys2Proof/Machine/Convert.lean ====
section
/-! DEFINITION. The measurement converter's functions (42_measurement.md R96 to R104) and CONV.q (R123 to R137).
Each function gives the exact pair (M, D) of 00_scope.md R13. -/

namespace Sys2Proof.Machine

/-- `conv_V` (R96): unsigned, times VGAIN_NUM, over 100 × VGAIN_DEN. -/
def pairV (c : Config) (r : Half) : Int × Nat := (zext r * zext c.vgainNum, 100 * c.vgainDen)
/-- `conv_I` (R97): unsigned, over 1000. -/
def pairI (r : Half) : Int × Nat := (zext r, 1000)
/-- `conv_P` (R98): two's complement, over P_DIV. -/
def pairP (c : Config) (r : Half) : Int × Nat := (sext16 r, pDivValue c.pDiv)
/-- `conv_Q` and `conv_S` (R99): two's complement, as it is. -/
def pairQS (r : Half) : Int × Nat := (sext16 r, 1)
/-- `conv_F` (R100): unsigned, over 100. -/
def pairF (r : Half) : Int × Nat := (zext r, 100)
/-- `conv_PF` (R101): signed magnitude, over 1000. -/
def pairPF (r : Half) : Int × Nat := (sm16 r, 1000)
/-- `conv_PA` (R102): two's complement, as it is. -/
def pairPA (r : Half) : Int × Nat := (sext16 r, 1)
/-- `conv_EA` (R103): unsigned, as it is. -/
def pairEA (r : Half) : Int × Nat := (zext r, 1)
/-- `conv_ER` (R104): unsigned, over 10. -/
def pairER (r : Half) : Int × Nat := (zext r, 10)

/-- The conversion of each quantity (R95). -/
def convert (c : Config) (r : Half) : Quantity → Int × Nat
  | .v => pairV c r
  | .i => pairI r
  | .p => pairP c r
  | .q => pairQS r
  | .s => pairQS r
  | .f => pairF r
  | .pf => pairPF r
  | .pa => pairPA r
  | .eaf => pairEA r
  | .ear => pairEA r
  | .eaa => pairEA r
  | .erf => pairER r
  | .err => pairER r
  | .era => pairER r

/-- CONV(q) (R123): no transport operation, and RDATA unchanged. -/
def convMicro (k : Quantity) (r : Half) : Micro :=
  { start := setPhase .compute,
    send := fun _ => none,
    afterFrame := .compute,
    compute := fun s => some (setPhase (.finish .ok) (writeConv k (convert s.cfg r k) s)),
    commit := id }

/-- CONV.V (R124). -/
def execConvV (r : Half) (s : State) : Host.Outcome State Fault Refusal :=
  .next (perform (encode (.convV r)) (convMicro .v r) s)
/-- CONV.I (R125). -/
def execConvI (r : Half) (s : State) : Host.Outcome State Fault Refusal :=
  .next (perform (encode (.convI r)) (convMicro .i r) s)
/-- CONV.P (R126). -/
def execConvP (r : Half) (s : State) : Host.Outcome State Fault Refusal :=
  .next (perform (encode (.convP r)) (convMicro .p r) s)
/-- CONV.Q (R127). -/
def execConvQ (r : Half) (s : State) : Host.Outcome State Fault Refusal :=
  .next (perform (encode (.convQ r)) (convMicro .q r) s)
/-- CONV.S (R128). -/
def execConvS (r : Half) (s : State) : Host.Outcome State Fault Refusal :=
  .next (perform (encode (.convS r)) (convMicro .s r) s)
/-- CONV.F (R129). -/
def execConvF (r : Half) (s : State) : Host.Outcome State Fault Refusal :=
  .next (perform (encode (.convF r)) (convMicro .f r) s)
/-- CONV.PF (R130). -/
def execConvPF (r : Half) (s : State) : Host.Outcome State Fault Refusal :=
  .next (perform (encode (.convPF r)) (convMicro .pf r) s)
/-- CONV.PA (R131). -/
def execConvPA (r : Half) (s : State) : Host.Outcome State Fault Refusal :=
  .next (perform (encode (.convPA r)) (convMicro .pa r) s)
/-- CONV.EAF (R132). -/
def execConvEAF (r : Half) (s : State) : Host.Outcome State Fault Refusal :=
  .next (perform (encode (.convEAF r)) (convMicro .eaf r) s)
/-- CONV.EAR (R133). -/
def execConvEAR (r : Half) (s : State) : Host.Outcome State Fault Refusal :=
  .next (perform (encode (.convEAR r)) (convMicro .ear r) s)
/-- CONV.EAA (R134). -/
def execConvEAA (r : Half) (s : State) : Host.Outcome State Fault Refusal :=
  .next (perform (encode (.convEAA r)) (convMicro .eaa r) s)
/-- CONV.ERF (R135). -/
def execConvERF (r : Half) (s : State) : Host.Outcome State Fault Refusal :=
  .next (perform (encode (.convERF r)) (convMicro .erf r) s)
/-- CONV.ERR (R136). -/
def execConvERR (r : Half) (s : State) : Host.Outcome State Fault Refusal :=
  .next (perform (encode (.convERR r)) (convMicro .err r) s)
/-- CONV.ERA (R137). -/
def execConvERA (r : Half) (s : State) : Host.Outcome State Fault Refusal :=
  .next (perform (encode (.convERA r)) (convMicro .era r) s)

end Sys2Proof.Machine
end

