-- ==== Sys2Proof/Machine/Measure.lean ====
section
/-! DEFINITION. MEAS.q: one READ frame and a conversion (42_measurement.md R108 to R122). -/

namespace Sys2Proof.Machine

/-- The last lines of MEAS(q) (R108): RDATA <- r, then the converted pair. -/
def storeMeasurement (k : Quantity) (s : State) : State :=
  let r := joinBytes s.hb s.lb
  writeConv k (convert s.cfg r k) (writeRData r s)

/-- MEAS(q) (R108): the quantity's register is always readable, so there is no address check. -/
def measMicro (k : Quantity) : Micro :=
  { start := startFrame,
    send := fun s => some (readFrame s.cfg (measAddr s.cfg.measMap k)),
    afterFrame := .compute,
    compute := fun s => some (setPhase (.finish .ok) (storeMeasurement k s)),
    commit := id }

/-- MEAS.V (R109). -/
def execMeasV (s : State) : Host.Outcome State Fault Refusal :=
  .next (perform (encode .measV) (measMicro .v) s)
/-- MEAS.I (R110). -/
def execMeasI (s : State) : Host.Outcome State Fault Refusal :=
  .next (perform (encode .measI) (measMicro .i) s)
/-- MEAS.P (R111). -/
def execMeasP (s : State) : Host.Outcome State Fault Refusal :=
  .next (perform (encode .measP) (measMicro .p) s)
/-- MEAS.Q (R112). -/
def execMeasQ (s : State) : Host.Outcome State Fault Refusal :=
  .next (perform (encode .measQ) (measMicro .q) s)
/-- MEAS.S (R113). -/
def execMeasS (s : State) : Host.Outcome State Fault Refusal :=
  .next (perform (encode .measS) (measMicro .s) s)
/-- MEAS.F (R114). -/
def execMeasF (s : State) : Host.Outcome State Fault Refusal :=
  .next (perform (encode .measF) (measMicro .f) s)
/-- MEAS.PF (R115). -/
def execMeasPF (s : State) : Host.Outcome State Fault Refusal :=
  .next (perform (encode .measPF) (measMicro .pf) s)
/-- MEAS.PA (R116). -/
def execMeasPA (s : State) : Host.Outcome State Fault Refusal :=
  .next (perform (encode .measPA) (measMicro .pa) s)
/-- MEAS.EAF (R117). -/
def execMeasEAF (s : State) : Host.Outcome State Fault Refusal :=
  .next (perform (encode .measEAF) (measMicro .eaf) s)
/-- MEAS.EAR (R118). -/
def execMeasEAR (s : State) : Host.Outcome State Fault Refusal :=
  .next (perform (encode .measEAR) (measMicro .ear) s)
/-- MEAS.EAA (R119). -/
def execMeasEAA (s : State) : Host.Outcome State Fault Refusal :=
  .next (perform (encode .measEAA) (measMicro .eaa) s)
/-- MEAS.ERF (R120). -/
def execMeasERF (s : State) : Host.Outcome State Fault Refusal :=
  .next (perform (encode .measERF) (measMicro .erf) s)
/-- MEAS.ERR (R121). -/
def execMeasERR (s : State) : Host.Outcome State Fault Refusal :=
  .next (perform (encode .measERR) (measMicro .err) s)
/-- MEAS.ERA (R122). -/
def execMeasERA (s : State) : Host.Outcome State Fault Refusal :=
  .next (perform (encode .measERA) (measMicro .era) s)

end Sys2Proof.Machine
end

