-- ==== Sys2Proof/Machine/Register.lean ====
section
/-! DEFINITION. READ and WRITE (40_register_link.md R82, R83). -/

namespace Sys2Proof.Machine

/-- READ a (R82): InvalidAddress for an address that is not readable, before any operation; else one READ frame,
and RDATA <- h ++ l at the end. -/
def readMicro (a : Addr) : Micro :=
  { start := fun s => if readable a then startFrame s else raise .invalidAddress s,
    send := fun s => some (readFrame s.cfg a),
    afterFrame := .finish .ok,
    compute := fun _ => none,
    commit := fun s => writeRData (joinBytes s.hb s.lb) s }

/-- WRITE a, v (R83): InvalidAddress for an address that is not writable, before any operation; else one WRITE
frame. The received bytes are no result. -/
def writeMicro (a : Addr) (v : Half) : Micro :=
  { start := fun s => if writable a then startFrame s else raise .invalidAddress s,
    send := fun _ => some (writeFrame a v),
    afterFrame := .finish .ok,
    compute := fun _ => none,
    commit := id }

/-- READ (R82). -/
def execRead (a : Addr) (s : State) : Host.Outcome State Fault Refusal :=
  .next (perform (encode (.read a)) (readMicro a) s)

/-- WRITE (R83). -/
def execWrite (a : Addr) (v : Half) (s : State) : Host.Outcome State Fault Refusal :=
  .next (perform (encode (.write a v)) (writeMicro a v) s)

end Sys2Proof.Machine
end

