-- ==== Sys2Proof/Machine/WireFrame.lean ====
section
/-! DEFINITION. The wire-header rows of the opcode table (30_encoding.md R63, R64): a frame put straight to the
frame serializer, by its header (40_register_link.md R75). What it does besides the frame is a DESIGN CHOICE,
notes/assumptions/10.md and 11.md. -/

namespace Sys2Proof.Machine

/-- The READ frame of R64 alone: it leaves its two bytes in HB and LB (R75), and no result register. An address that
is not readable is refused before any operation, as R54 and R65 have it. -/
def frameReadMicro (a : Addr) : Micro :=
  { start := fun s => if readable a then startFrame s else raise .invalidAddress s,
    send := fun s => some (readFrame s.cfg a),
    afterFrame := .finish .ok,
    compute := fun _ => none,
    commit := id }

/-- The WRITE frame of R64 alone. An address that is not writable is refused before any operation (R54, R65). -/
def frameWriteMicro (a : Addr) (v : Half) : Micro :=
  { start := fun s => if writable a then startFrame s else raise .invalidAddress s,
    send := fun _ => some (writeFrame a v),
    afterFrame := .finish .ok,
    compute := fun _ => none,
    commit := id }

/-- FRAME.READ_HEADER (R63, R64, R75). -/
def execFrameRead (a : Addr) (s : State) : Host.Outcome State Fault Refusal :=
  .next (perform (encode (.frameRead a)) (frameReadMicro a) s)

/-- FRAME.WRITE_HEADER (R63, R64, R75). -/
def execFrameWrite (a : Addr) (v : Half) (s : State) : Host.Outcome State Fault Refusal :=
  .next (perform (encode (.frameWrite a v)) (frameWriteMicro a v) s)

end Sys2Proof.Machine
end

