-- ==== Sys2Proof/Machine/Dispatch.lean ====
section
/-! DEFINITION. Which meaning each instruction has: one arm per constructor of Instr. -/

namespace Sys2Proof.Machine

def exec (i : Instr) (s : State) : Host.Outcome State Fault Refusal :=
  match i with
  | .read a => Sys2Proof.Machine.execRead a s
  | .write a v => Sys2Proof.Machine.execWrite a v s
  | .cs1 => Sys2Proof.Machine.execCs1 s
  | .cs2 => Sys2Proof.Machine.execCs2 s
  | .measV => Sys2Proof.Machine.execMeasV s
  | .measI => Sys2Proof.Machine.execMeasI s
  | .measP => Sys2Proof.Machine.execMeasP s
  | .measQ => Sys2Proof.Machine.execMeasQ s
  | .measS => Sys2Proof.Machine.execMeasS s
  | .measF => Sys2Proof.Machine.execMeasF s
  | .measPF => Sys2Proof.Machine.execMeasPF s
  | .measPA => Sys2Proof.Machine.execMeasPA s
  | .measEAF => Sys2Proof.Machine.execMeasEAF s
  | .measEAR => Sys2Proof.Machine.execMeasEAR s
  | .measEAA => Sys2Proof.Machine.execMeasEAA s
  | .measERF => Sys2Proof.Machine.execMeasERF s
  | .measERR => Sys2Proof.Machine.execMeasERR s
  | .measERA => Sys2Proof.Machine.execMeasERA s
  | .convV r => Sys2Proof.Machine.execConvV r s
  | .convI r => Sys2Proof.Machine.execConvI r s
  | .convP r => Sys2Proof.Machine.execConvP r s
  | .convQ r => Sys2Proof.Machine.execConvQ r s
  | .convS r => Sys2Proof.Machine.execConvS r s
  | .convF r => Sys2Proof.Machine.execConvF r s
  | .convPF r => Sys2Proof.Machine.execConvPF r s
  | .convPA r => Sys2Proof.Machine.execConvPA r s
  | .convEAF r => Sys2Proof.Machine.execConvEAF r s
  | .convEAR r => Sys2Proof.Machine.execConvEAR r s
  | .convEAA r => Sys2Proof.Machine.execConvEAA r s
  | .convERF r => Sys2Proof.Machine.execConvERF r s
  | .convERR r => Sys2Proof.Machine.execConvERR r s
  | .convERA r => Sys2Proof.Machine.execConvERA r s
  | .frameRead a => Sys2Proof.Machine.execFrameRead a s
  | .frameWrite a v => Sys2Proof.Machine.execFrameWrite a v s

end Sys2Proof.Machine
end

