-- ==== Sys2Proof/Machine/Step.lean ====
section
/-! DEFINITION. One step of the machine, and putting an instruction where the next step takes it. -/

namespace Sys2Proof.Machine

/-- One step: an instance that is not valid is refused (R77); IDLE with nothing presented waits (R158); otherwise
the request in progress, or the one presented, is decoded (R36, R69) and run until its end or until the block waits
on BusTransport (R37). Each step of R37 in between is one `busyStep` (notes/assumptions/1.md). -/
def step (s : State) : Host.Outcome State Fault Refusal :=
  if s.cfg.timingOk then
    match currentRequest s with
    | none => .next (waitIdle s)
    | some r =>
      match decode r with
      | .ok i => exec i s
      | .error _ => .next (performIllegal r s)
  else .refused .invalidInstance

/-- The word presented at the host port of an IDLE block, ahead of what stands there, with no reset coming before
it: `step` then accepts and runs it. It stands for the host (notes/assumptions/4.md). -/
def State.withFetchWord (s : State) (nbits w : Nat) : State :=
  { s with st := .idle, port := tableRequest nbits w :: s.port, resetIn := none }

end Sys2Proof.Machine
end

