-- ==== Sys2Proof/Machine/Double.lean ====
section
/-! DEFINITION. The reference test double of 20_memory.md R60, a stand-in for the chip seen from the wire. It is no
part of State (10_state.md R18) and no rule about the block uses it but R84. -/

namespace Sys2Proof.Machine

/-- The double's registers: address and value pairs in one canonical form, addresses strictly rising. An address
that is not listed is unwritten and has no start value: a read of it has no answer. -/
abbrev Registers := List (Nat × Half)

/-- The canonical form. -/
def registersWf (m : Registers) : Bool := decide (m.Pairwise fun x y => x.1 < y.1)

/-- The value at an address, if there is one. -/
def readRegister : Registers → Nat → Option Half
  | [], _ => none
  | (b, v) :: m, a => if a = b then some v else readRegister m a

/-- Store a value at an address, keeping the canonical form. -/
def writeRegister : Registers → Nat → Half → Registers
  | [], a, v => [(a, v)]
  | (b, w) :: m, a, v =>
    if a < b then (a, v) :: (b, w) :: m
    else if a = b then (a, v) :: m
    else (b, w) :: writeRegister m a v

/-- The double: its registers and the bytes it was sent in the frame in progress. -/
structure Double where
  regs : Registers
  sent : List Byte
  deriving DecidableEq, Repr

/-- The address a header names (R63). -/
def headerAddr (h : Byte) : Addr := h.extractLsb' 0 7

/-- The byte the double answers (R60): 0x00 during the header and during a WRITE's data phase; in a READ's data
phase the stored value, high byte first. -/
def doubleAnswer (d : Double) : Option Byte :=
  match d.sent with
  | [] => some 0
  | [h] => if h.getLsbD 7 then (readRegister d.regs (headerAddr h).toNat).map hiByte else some 0
  | [h, _] => if h.getLsbD 7 then (readRegister d.regs (headerAddr h).toNat).map loByte else some 0
  | _ => none

/-- The double after it was sent a byte (R60): the third byte of a WRITE frame to 0x00 to 0x3B stores the value. -/
def doubleTake (d : Double) (out : Byte) : Double :=
  match d.sent with
  | [h, b1] =>
    if !h.getLsbD 7 && inConfigClass (headerAddr h) then
      { regs := writeRegister d.regs (headerAddr h).toNat (joinBytes b1 out), sent := d.sent ++ [out] }
    else { d with sent := d.sent ++ [out] }
  | _ => { d with sent := d.sent ++ [out] }

/-- One transport operation seen by the double; `none` when the byte received is not the one it answers. DESIGN CHOICE
(notes/assumptions/29.md): an exchange that BusTransport fails does not reach the double, so after a WRITE frame that
aborts the register keeps the value it had. R60 says nothing of failed exchanges, and R147 has that register of the
chip unknown. -/
def doubleOp (d : Double) : Op → Option Double
  | .selAssert => some { d with sent := [] }
  | .selDeassert => some { d with sent := [] }
  | .delayUs _ => some d
  | .xchg out (.byte b) => if doubleAnswer d = some b then some (doubleTake d out) else none
  | .xchg _ .busError => some d

/-- A sequence of transport operations seen by the double: `none` when some byte received is not its answer. -/
def doubleRun (d : Double) : List Op → Option Double
  | [] => some d
  | o :: os => (doubleOp d o).bind fun d' => doubleRun d' os

end Sys2Proof.Machine
end

