-- ==== Sys2Proof/Machine/Port.lean ====
section
/-! DEFINITION. The host port's outputs: what a host reads of the block (10_state.md R34, R35). Reading changes
nothing (R148). -/

namespace Sys2Proof.Machine

/-- `cmd_ready` (R35). -/
def cmdReady (s : State) : Bool := s.st = .idle

/-- `cmd_valid` (R35). -/
def cmdValid (s : State) : Bool := !s.port.isEmpty

/-- A host read of STATUS: CODE as its number (R139) and DONE (R27). It always has a value. -/
def readStatus (s : State) : BitVec 2 × Bool := (codeBits s.code, s.done)

/-- A host read of CMD, which keeps the last accepted word (60_exceptions.md R139). -/
def readCmd (s : State) : Word := s.cmd

/-- A host read of RDATA (R34). -/
def readRData (s : State) : Except Fault Half := if s.rdataValid then .ok s.rdata else .error .resultNotValid

/-- A host read of CSUM (R34). -/
def readCsum (s : State) : Except Fault Half := if s.csumValid then .ok s.csum else .error .resultNotValid

/-- A host read of CONV_M, CONV_D and CONV_Q (R34). -/
def readConv (s : State) : Except Fault (Int × Nat × BitVec 4) :=
  if s.convValid then .ok (s.convM, s.convD, s.convQ) else .error .resultNotValid

end Sys2Proof.Machine
end

