-- ==== Sys2Proof/Machine/Shared.lean ====
section
/-! DEFINITION. Two instances of the block (60_exceptions.md R155): each on its own bus, or both on one bus, where
frames that would run at the same time are refused (U13, D29). -/

namespace Sys2Proof.Machine

/-- Whether the instance's next step would issue a transport operation, whatever the reset input does. -/
def wantsBus (s : State) : Bool :=
  match step { s with resetIn := none } with
  | .next t => t.trace != s.trace
  | .fault _ => false
  | .refused _ => false

/-- Whether a frame of `s` and a frame of `o` would be on one bus at once when `s` steps: a frame is in progress
exactly while select is asserted (R79). -/
def framesOverlap (s o : State) : Bool := o.sel && (s.sel || wantsBus s)

/-- A step of the first instance (`true`) or of the second, each with a bus of its own: the other is not touched. -/
def stepApart (first : Bool) (p : State × State) : Host.Outcome (State × State) Fault Refusal :=
  match step (if first then p.1 else p.2) with
  | .next t => .next (if first then (t, p.2) else (p.1, t))
  | .fault e => .fault e
  | .refused e => .refused e

/-- The same with one bus under both: refused where frames would overlap. -/
def stepShared (first : Bool) (p : State × State) : Host.Outcome (State × State) Fault Refusal :=
  if (if first then framesOverlap p.1 p.2 else framesOverlap p.2 p.1) then .refused .sharedBus
  else stepApart first p

end Sys2Proof.Machine
end

