-- ==== Sys2Proof/Safety.lean ====
section
/-! DEFINITION. What counts as a good run: the transport protocol as an observer of the trace sees it
(40_register_link.md R77, R79; 30_encoding.md R65), the invariant of the block's states, and the host's duties of
70_reset_and_hazards.md as predicates over the history. -/

namespace Sys2Proof.Safety

open Sys2Proof.Machine

/-! ### The transport protocol, as seen on the bus -/

/-- Where an observer of the bus stands: between frames; after SEL_ASSERT, the header or the second data byte, with
the microseconds of delay seen since; after the first data byte; after an exchange that failed. -/
inductive LinkStage where
  | between
  | selected (waited : Nat)
  | headerSent (waited : Nat)
  | oneSent
  | twoSent (waited : Nat)
  | failed
  deriving DecidableEq, Repr

/-- The headers the block can send (R65): 0x80 to 0xBB, 0xC0 to 0xEF, 0x00 to 0x3B. -/
def headerAllowed (h : Byte) : Bool :=
  (decide (0x80 ≤ h.toNat) && decide (h.toNat ≤ 0xBB)) || (decide (0xC0 ≤ h.toNat) && decide (h.toNat ≤ 0xEF)) ||
    decide (h.toNat ≤ 0x3B)

/-- The stage after an exchange: `ok` if a byte came back. -/
def afterXchg (ok : LinkStage) : Reply → LinkStage
  | .byte _ => ok
  | .busError => .failed

/-- One operation seen by the observer; `none` if no frame of R75 or R76 that meets the windows of R77 and sends a
header of R65 goes on so. -/
def linkStep : LinkStage → Op → Option LinkStage
  | .between, .selAssert => some (.selected 0)
  | .between, .delayUs _ => some .between
  | .selected d, .delayUs n => some (.selected (d + n))
  | .selected d, .xchg out r =>
    if Config.tPreMin ≤ d ∧ headerAllowed out = true then some (afterXchg (.headerSent 0) r) else none
  | .headerSent d, .delayUs n => some (.headerSent (d + n))
  | .headerSent d, .xchg _ r => if Config.tHdrMin ≤ d then some (afterXchg .oneSent r) else none
  | .oneSent, .delayUs _ => some .oneSent
  | .oneSent, .xchg _ r => some (afterXchg (.twoSent 0) r)
  | .twoSent d, .delayUs n => some (.twoSent (d + n))
  | .twoSent d, .selDeassert => if Config.tPostMin ≤ d then some .between else none
  | .failed, .selDeassert => some .between
  | _, _ => none

/-- A sequence of operations seen by the observer. -/
def linkRun (g : LinkStage) : List Op → Option LinkStage
  | [] => some g
  | o :: os => (linkStep g o).bind fun g' => linkRun g' os

/-- The stage the block's own registers stand for: MPC within a frame (R75), SEL_DEASSERT due in an abort (R76). -/
def stageOf (s : State) : LinkStage :=
  match s.phase with
  | .frame =>
    match s.mpc with
    | 0 => .between
    | 1 => .selected 0
    | 2 => .selected s.cfg.tPre
    | 3 => .headerSent 0
    | 4 => .headerSent s.cfg.tHdr
    | 5 => .oneSent
    | 6 => .oneSent
    | 7 => .twoSent 0
    | 8 => .twoSent s.cfg.tPost
    | 9 => .between
  | .abort => .failed
  | .decode | .compute | .finish _ => .between

/-! ### The invariant of the block's states -/

/-- Whether an instruction may have a frame in progress with this FIDX (R23, R65, R75): its address is allowed, and
within CS1 and CS2 the index is below the count. -/
def mayFrame (fidx : BitVec 4) : Instr → Bool
  | .read a => readable a
  | .write a _ => writable a
  | .frameRead a => readable a
  | .frameWrite a _ => writable a
  | .cs1 => decide (fidx.toNat < cs1Count)
  | .cs2 => decide (fidx.toNat < cs2Count)
  | .measV | .measI | .measP | .measQ | .measS | .measF | .measPF | .measPA
  | .measEAF | .measEAR | .measEAA | .measERF | .measERR | .measERA => true
  | .convV _ | .convI _ | .convP _ | .convQ _ | .convS _ | .convF _ | .convPF _ | .convPA _
  | .convEAF _ | .convEAR _ | .convEAA _ | .convERF _ | .convERR _ | .convERA _ => false

/-- Whether an instruction may have an accumulation or a conversion as its next action (R37). -/
def mayCompute (fidx : BitVec 4) : Instr → Bool
  | .read _ | .write _ _ | .frameRead _ | .frameWrite _ _ => false
  | .cs1 => decide (fidx.toNat < cs1Count)
  | .cs2 => decide (fidx.toNat < cs2Count)
  | .measV | .measI | .measP | .measQ | .measS | .measF | .measPF | .measPA
  | .measEAF | .measEAR | .measEAA | .measERF | .measERR | .measERA
  | .convV _ | .convI _ | .convP _ | .convQ _ | .convS _ | .convF _ | .convPF _ | .convPA _
  | .convEAF _ | .convEAR _ | .convEAA _ | .convERF _ | .convERR _ | .convERA _ => true

/-- The instruction the block works on, if its request decodes. -/
def currentInstr (s : State) : Option Instr := (currentRequest s).bind fun r => (decode r).toOption

/-- The phase is one the instruction in progress can be in. -/
def phaseFits (s : State) : Bool :=
  match s.phase with
  | .frame => (currentInstr s).any (mayFrame s.fidx)
  | .compute => (currentInstr s).any (mayCompute s.fidx)
  | .decode | .abort | .finish _ => true

/-- Between commands the block is at rest: MPC 0 (R22), nothing in progress. -/
def restsWhenIdle (s : State) : Bool :=
  s.st != .idle || (s.mpc == 0 && s.phase == .decode && s.wire.isNone)

/-- SEL is asserted exactly while a frame is (R79); in particular it is 0 between frames and between commands. -/
def selFits (s : State) : Bool := s.sel == (stageOf s != .between)

/-- DONE is 0 while a command is in progress (R27, R35). -/
def doneFits (s : State) : Bool := s.st != .busy || s.wire.isSome || !s.done

/-- A valid conversion result is a pair of R13 within the widths of R26 and R106, with a code of R95. -/
def convFits (s : State) : Bool :=
  !s.convValid || (decide (s.convM.natAbs ≤ 65535 * 65535) && decide (1 ≤ s.convD) &&
    decide (s.convD ≤ 100 * 65535) && decide (s.convQ.toNat ≤ 0xD))

/-- FIDX has one of its values, 0 to 10 (R23). -/
def fidxFits (s : State) : Bool := decide (s.fidx.toNat ≤ 10)

/-- The invariant: the instance is valid, and its registers, its phase and its trace belong together. -/
def BlockInv (s : State) : Prop :=
  s.cfg.timingOk = true ∧ restsWhenIdle s = true ∧ phaseFits s = true ∧ selFits s = true ∧ doneFits s = true ∧
    convFits s = true ∧ fidxFits s = true ∧ linkRun .between s.trace = some (stageOf s)

/-- The block waits on BusTransport: a byte exchange of a frame has no answer yet (R37, R75). -/
def waitsOnBus (s : State) : Bool :=
  s.st == .busy && s.phase == .frame && (s.mpc == 2 || s.mpc == 4 || s.mpc == 6) && s.replies.isEmpty

/-! ### The host's duties, over the history (R162 to R170) -/

/-- The host's CalibrationProfile (R162): what goes to 0x02, 0x03, 0x21 to 0x2B (11 values) and 0x31 to 0x3A (10). -/
structure Profile where
  functionEnable : Half
  sagThreshold : Half
  block1 : List Half
  block2 : List Half
  deriving DecidableEq, Repr

/-- WRITEs of a block's values in address order. -/
def writeBlock (base : Addr) (vs : List Half) : List Instr :=
  vs.zipIdx.map fun p => .write (base + BitVec.ofNat 7 p.2) p.1

/-- One command of the boot sequence: an instruction given beforehand, or the WRITE of a checksum register, whose value
is CSUM as the host reads it then. -/
inductive BootStep where
  | issue (i : Instr)
  | installCsum (a : Addr)
  deriving DecidableEq, Repr

/-- The instruction a step of the sequence asks for, when the host reads `csum` in CSUM; none while CSUM has no value
(R34). -/
def BootStep.command (csum : Option Half) : BootStep → Option Instr
  | .issue i => some i
  | .installCsum a => csum.map fun v => .write a v

/-- The boot sequence of R162; 0x2C and 0x3B receive CSUM. R162 gives the calibration lock first and says that either
order of the two locks meets the source's property: `adjustmentFirst` is the other order. -/
def bootSequence (p : Profile) (adjustmentFirst : Bool) : List BootStep :=
  [.issue (.write 0x00 0x789A), .issue (.write 0x02 p.functionEnable), .issue (.write 0x03 p.sagThreshold),
    .issue (.write 0x20 0x5678)] ++ (writeBlock cs1Base p.block1).map .issue ++
    [.issue .cs1, .installCsum 0x2C, .issue (.write 0x30 0x5678)] ++ (writeBlock cs2Base p.block2).map .issue ++
    [.issue .cs2, .installCsum 0x3B] ++
    (if adjustmentFirst then [.issue (.write 0x30 0x8765), .issue (.write 0x20 0x8765)]
      else [.issue (.write 0x20 0x8765), .issue (.write 0x30 0x8765)])

/-- The instruction of a command in the history, if its word is one. -/
def eventInstr (e : Event) : Option Instr := (decode (.command e.word)).toOption

/-- The instruction of a command that ended OK in the history. -/
def endedOk (e : Event) : Option Instr := if e.code = .ok then eventInstr e else none

/-- Writes R170 forbids after the locks (0x21 to 0x2C, 0x31 to 0x3B), and those that begin the sequence anew. -/
def disturbsCalibration : Instr → Bool
  | .write a _ => a == 0x00 || a == 0x20 || a == 0x30 || (decide (0x21 ≤ a.toNat) && decide (a.toNat ≤ 0x2C)) ||
      (decide (0x31 ≤ a.toNat) && decide (a.toNat ≤ 0x3B))
  | _ => false

/-- How far a history has come in the boot sequence, and what the host reads in CSUM since its last event. -/
structure BootProgress where
  done : Nat
  csum : Option Half
  deriving DecidableEq, Repr

/-- How far the sequence stands after the command of one more event: the next command of it goes on; its first one
starts it anew (R163); anything else before the end starts over (U1, U9), and after the end only an error or a
disturbing WRITE does (R165, R170). -/
def bootDone (seq : List BootStep) (b : BootProgress) (e : Event) : Nat :=
  match endedOk e with
  | none => 0
  | some i =>
    if (seq[b.done]?).bind (BootStep.command b.csum) = some i then b.done + 1
    else if (seq[0]?).bind (BootStep.command b.csum) = some i then 1
    else if b.done = seq.length && !disturbsCalibration i then b.done
    else 0

/-- One event more of the history. -/
def bootNext (seq : List BootStep) (b : BootProgress) (e : Event) : BootProgress := ⟨bootDone seq b e, e.csum⟩

/-- How far a history has come in a sequence (R162 to R165). -/
def bootProgress (seq : List BootStep) (h : List Event) : BootProgress := h.foldl (bootNext seq) ⟨0, none⟩

/-- The premise of R165: the history has run the boot sequence to `[Locked]` with no error since. The 200 ms wait of
R161 is time and does not show in it (notes/assumptions/21.md, 22.md). -/
def initComplete (p : Profile) (h : List Event) : Bool :=
  p.block1.length == cs1Count && p.block2.length == cs2Count &&
    ((bootProgress (bootSequence p false) h).done == (bootSequence p false).length ||
      (bootProgress (bootSequence p true) h).done == (bootSequence p true).length)

/-- A checksum range (R91, R92, R166): the command that folds it, its first and last
register, and the register its result is installed in. -/
structure ChecksumRange where
  cs : Instr
  lo : Nat
  hi : Nat
  target : Addr
  deriving DecidableEq, Repr

/-- 0x21 to 0x2B, CS1, 0x2C. -/
def range1 : ChecksumRange := ⟨.cs1, 0x21, 0x2B, 0x2C⟩

/-- 0x31 to 0x3A, CS2, 0x3B. -/
def range2 : ChecksumRange := ⟨.cs2, 0x31, 0x3A, 0x3B⟩

/-- An address of the range. -/
def ChecksumRange.holds (k : ChecksumRange) (a : Addr) : Bool := decide (k.lo ≤ a.toNat) && decide (a.toNat ≤ k.hi)

/-- Where a history stands with the duty of R166 for one range. -/
structure ChecksumTrack where
  /-- the result of the last CS command that ended OK, if no WRITE to the range came after it -/
  result : Option Half
  /-- a WRITE to the range, or one of the checksum register that failed, waits for the result to be written -/
  owed : Bool
  /-- a WRITE to the range ended in an error, and no soft reset has come since (R163) -/
  broken : Bool
  /-- a value went to the checksum register that was not the result due -/
  wrong : Bool
  deriving DecidableEq, Repr

/-- R166 for a WRITE that ended in `c`. A soft reset that ended OK starts the sequence anew (R163): no result stands. A
WRITE to the range takes the result away and makes a new one due. A WRITE of the checksum register must carry the
result, and settles what is due if it ended OK. -/
def trackWrite (k : ChecksumRange) (a : Addr) (v : Half) (c : Code) (d : ChecksumTrack) : ChecksumTrack :=
  if a = 0x00 ∧ v = 0x789A ∧ c = .ok then { d with result := none, broken := false }
  else if k.holds a then { d with result := none, owed := true, broken := d.broken || c != .ok }
  else if a = k.target then { d with owed := c != .ok, wrong := d.wrong || d.broken || d.result != some v }
  else d

/-- R166 for one range, one event more. A CS command that ended OK gives the result that stands in CSUM. -/
def checksumNext (k : ChecksumRange) (d : ChecksumTrack) (e : Event) : ChecksumTrack :=
  match eventInstr e with
  | some (.write a v) => trackWrite k a v e.code d
  | some i => if i = k.cs ∧ e.code = .ok then { d with result := e.csum } else d
  | none => d

/-- Where a whole history stands with the duty of R166 for one range. -/
def checksumTrack (k : ChecksumRange) (h : List Event) : ChecksumTrack :=
  h.foldl (checksumNext k) ⟨none, false, false, false⟩

/-- R166 for one range: nothing is due, and only results went to the checksum register. -/
def checksumSettled (k : ChecksumRange) (h : List Event) : Bool :=
  let d := checksumTrack k h
  !d.owed && !d.broken && !d.wrong

/-- R166: for both ranges, each checksum in the chip's register is the result of a CS command that came after every
WRITE to its range ended OK. -/
def checksumDuty (h : List Event) : Bool := checksumSettled range1 h && checksumSettled range2 h

end Sys2Proof.Safety
end

