-- ==== Sys2Proof/Certificates/Slice0/Obligations.lean ====
section
/-! DEFINITION. The statements about the model, one `def Obligations.<Name> : Prop` each, and the words they are
written in (namespace Sys2Proof.Expect): what the spec's own formulas give, written without the machine. -/

namespace Sys2Proof.Expect

open Sys2Proof.Machine

/-! ### The spec's formulas -/

/-- A delay that 40_register_link.md R75 skips when its parameter is 0. -/
def pause (n : Nat) : List Op := if 0 < n then [.delayUs n] else []

/-- The bytes a READ frame sends (R64): `0x80 | a`, DUMMY, DUMMY. -/
def readBytes (c : Config) (a : Addr) : Byte × Byte × Byte := (0x80#8 ||| a.setWidth 8, c.dummy, c.dummy)

/-- The bytes a WRITE frame sends (R64): `a`, `v[15:8]`, `v[7:0]`. -/
def writeBytes (a : Addr) (v : Half) : Byte × Byte × Byte :=
  (a.setWidth 8, BitVec.ofNat 8 (v.toNat / 256), BitVec.ofNat 8 (v.toNat % 256))

/-- The trace of a frame that sends the bytes `b` and receives the bytes `r` (R75). -/
def frameOps (c : Config) (b r : Byte × Byte × Byte) : List Op :=
  [.selAssert, .delayUs c.tPre, .xchg b.1 (.byte r.1), .delayUs c.tHdr, .xchg b.2.1 (.byte r.2.1)] ++
    pause c.tData ++ [.xchg b.2.2 (.byte r.2.2), .delayUs c.tPost, .selDeassert] ++ pause c.tGap

/-- The trace of a frame that sends the bytes `b`, receives the bytes listed, and then has its next exchange fail
(R75, R76). -/
def abortOps (c : Config) (b : Byte × Byte × Byte) : List Byte → List Op
  | [] => [.selAssert, .delayUs c.tPre, .xchg b.1 .busError, .selDeassert]
  | [r0] => [.selAssert, .delayUs c.tPre, .xchg b.1 (.byte r0), .delayUs c.tHdr, .xchg b.2.1 .busError, .selDeassert]
  | r0 :: r1 :: _ => [.selAssert, .delayUs c.tPre, .xchg b.1 (.byte r0), .delayUs c.tHdr, .xchg b.2.1 (.byte r1)] ++
      pause c.tData ++ [.xchg b.2.2 .busError, .selDeassert]

/-- The replies to one frame. -/
def repliesTo (r : Byte × Byte × Byte) : List Reply := [.byte r.1, .byte r.2.1, .byte r.2.2]

/-- The replies to one READ frame after another. -/
def repliesToAll (rs : List (Byte × Byte × Byte)) : List Reply := rs.flatMap repliesTo

/-- The trace of READ frames of consecutive registers from `base` up (41_checksum.md R88). -/
def foldOps (c : Config) (base : Nat) (rs : List (Byte × Byte × Byte)) : List Op :=
  rs.zipIdx.flatMap fun p => frameOps c (readBytes c (BitVec.ofNat 7 (base + p.2))) p.1

/-- S of R87: the sum of all high and low bytes, modulo 256. -/
def sumBytes (rs : List (Byte × Byte × Byte)) : Byte :=
  BitVec.ofNat 8 ((rs.map fun r => r.2.1.toNat + r.2.2.toNat).sum)

/-- X of R87: the exclusive-or of all high and low bytes. -/
def xorBytes (rs : List (Byte × Byte × Byte)) : Byte := rs.foldr (fun r x => r.2.1 ^^^ r.2.2 ^^^ x) 0

/-- The number of a command word: OP at 31:24, ADDR at 22:16, DATA at 15:0, RSV 0 (R66, R72). -/
def word (op a v : Nat) : Word := BitVec.ofNat 32 (op * 2 ^ 24 + a * 2 ^ 16 + v)

/-- R95's codes and the MEAS commands of R68, by opcode 0x10 to 0x1D. -/
def measTable : List (Instr × Quantity × Nat) :=
  [(.measV, .v, 0x10), (.measI, .i, 0x11), (.measP, .p, 0x12), (.measQ, .q, 0x13), (.measS, .s, 0x14),
   (.measF, .f, 0x15), (.measPF, .pf, 0x16), (.measPA, .pa, 0x17), (.measEAF, .eaf, 0x18), (.measEAR, .ear, 0x19),
   (.measEAA, .eaa, 0x1A), (.measERF, .erf, 0x1B), (.measERR, .err, 0x1C), (.measERA, .era, 0x1D)]

/-- R95's codes and the CONV commands of R68, by opcode 0x20 to 0x2D. -/
def convTable (r : Half) : List (Instr × Quantity × Nat) :=
  [(.convV r, .v, 0x20), (.convI r, .i, 0x21), (.convP r, .p, 0x22), (.convQ r, .q, 0x23), (.convS r, .s, 0x24),
   (.convF r, .f, 0x25), (.convPF r, .pf, 0x26), (.convPA r, .pa, 0x27), (.convEAF r, .eaf, 0x28),
   (.convEAR r, .ear, 0x29), (.convEAA r, .eaa, 0x2A), (.convERF r, .erf, 0x2B), (.convERR r, .err, 0x2C),
   (.convERA r, .era, 0x2D)]

/-- The register of a quantity: R95's default addresses; in the source's listing order of R44 the four of S, F, PF
and PA stand otherwise. -/
def registerOf : MeasMap → Quantity → Nat
  | _, .v => 0x49 | _, .i => 0x48 | _, .p => 0x4A | _, .q => 0x4B
  | .datasheet, .s => 0x4F | .datasheet, .f => 0x4C | .datasheet, .pf => 0x4D | .datasheet, .pa => 0x4E
  | .listing, .s => 0x4C | .listing, .f => 0x4D | .listing, .pf => 0x4E | .listing, .pa => 0x4F
  | _, .eaf => 0x40 | _, .ear => 0x41 | _, .eaa => 0x42 | _, .erf => 0x43 | _, .err => 0x44 | _, .era => 0x45

/-- The exact pair of each quantity (R96 to R104): unsigned, two's complement, or signed magnitude, over its
divisor. -/
def pairOf (c : Config) (r : Half) : Quantity → Int × Nat
  | .v => (r.toNat * c.vgainNum.toNat, 100 * c.vgainDen)
  | .i => (r.toNat, 1000)
  | .p => (r.toInt, if c.pDiv = .thousand then 1000 else 1)
  | .q => (r.toInt, 1)
  | .s => (r.toInt, 1)
  | .f => (r.toNat, 100)
  | .pf => ((-1) ^ (r.toNat / 32768) * (r.toNat % 32768 : Nat), 1000)
  | .pa => (r.toInt, 1)
  | .eaf => (r.toNat, 1)
  | .ear => (r.toNat, 1)
  | .eaa => (r.toNat, 1)
  | .erf => (r.toNat, 10)
  | .err => (r.toNat, 10)
  | .era => (r.toNat, 10)

/-- The OP values of R68. -/
def listedOps : List Nat :=
  [0x01, 0x02, 0x08, 0x09, 0x10, 0x11, 0x12, 0x13, 0x14, 0x15, 0x16, 0x17, 0x18, 0x19, 0x1A, 0x1B, 0x1C, 0x1D,
   0x20, 0x21, 0x22, 0x23, 0x24, 0x25, 0x26, 0x27, 0x28, 0x29, 0x2A, 0x2B, 0x2C, 0x2D]

/-- What R69 lets pass to the address check: a listed OP, RSV 0, ADDR 0 unless READ or WRITE, DATA 0 unless WRITE
or CONV.*. -/
def legalWord (w : Nat) : Prop :=
  w / 2 ^ 24 ∈ listedOps ∧ w / 2 ^ 23 % 2 = 0 ∧
    (w / 2 ^ 24 ∈ [0x01, 0x02] ∨ w / 2 ^ 16 % 2 ^ 7 = 0) ∧
    (w / 2 ^ 24 = 0x02 ∨ 0x20 ≤ w / 2 ^ 24 ∨ w % 2 ^ 16 = 0)

/-- The block is IDLE and no reset is coming: a command presented now runs undisturbed. -/
def Ready (s : State) : Prop := s.st = .idle ∧ s.resetIn = none

/-- What a host reads in CSUM (R34). -/
def csumOf (s : State) : Option Half := if s.csumValid = true then some s.csum else none

/-- The state after a command `w` that was accepted from the ready state `s` has ended in `c` with no frame sent
(R35, R36, R145): CMD, STATUS and the history are its own; nothing else of the block changed. -/
def ended (w : Word) (c : Code) (s : State) : State :=
  { s with cmd := w, port := s.port.tail, code := c, done := true, mpc := 0, phase := .decode, wire := none,
           history := s.history ++ [⟨w, c, csumOf s⟩] }

/-- The marks a complete frame leaves (R75): SEL 0, the two bytes of its data phase in HB and LB, the replies used,
its operations in the trace. -/
def framed (b r : Byte × Byte × Byte) (rest : List Reply) (s : State) : State :=
  { s with sel := false, hb := r.2.1, lb := r.2.2, replies := rest, trace := s.trace ++ frameOps s.cfg b r }

/-- The marks an aborted frame leaves (R76): SEL 0, the data bytes received before the failing exchange in HB and
LB, the replies used, its operations in the trace. -/
def aborted (b : Byte × Byte × Byte) (got : List Byte) (rest : List Reply) (s : State) : State :=
  { s with sel := false, hb := (got[1]?).getD s.hb, replies := rest, trace := s.trace ++ abortOps s.cfg b got }

/-- The bytes sent by the one frame of READ, WRITE and MEAS.q, where their address is allowed (R82, R83, R108). -/
def oneFrame (c : Config) : Instr → Option (Byte × Byte × Byte)
  | .read a => if readable a then some (readBytes c a) else none
  | .write a v => if writable a then some (writeBytes a v) else none
  | i => (measTable.find? fun e => e.1 = i).map fun e => readBytes c (BitVec.ofNat 7 (registerOf c.measMap e.2.1))

/-- The result registers with their valid bits (R26). -/
def results (s : State) : (Half × Bool) × (Half × Bool) × Int × Nat × BitVec 4 × Bool :=
  ((s.rdata, s.rdataValid), (s.csum, s.csumValid), s.convM, s.convD, s.convQ, s.convValid)

/-- The commands that write RDATA (R29). -/
def writesRData : Instr → Bool
  | .read _ => true
  | i => measTable.any fun e => e.1 = i

/-- The commands that write CSUM (R29). -/
def writesCsum (i : Instr) : Bool := i = .cs1 || i = .cs2

/-- The commands that write CONV_M, CONV_D and CONV_Q (R29). -/
def writesConv (i : Instr) : Bool :=
  (measTable.any fun e => e.1 = i) ||
    match i with
    | .convV r | .convI r | .convP r | .convQ r | .convS r | .convF r | .convPF r | .convPA r
    | .convEAF r | .convEAR r | .convEAA r | .convERF r | .convERR r | .convERA r =>
      (convTable r).any fun e => e.1 = i
    | _ => false

/-- The event of a WRITE of `v` to the register `a` that ended in `c` (R146), CSUM reading `x` after it. -/
def writeEvent (a v : Nat) (c : Code) (x : Option Half) : Event := ⟨word 0x02 a v, c, x⟩

/-- The event of CS1 (opcode 0x08) or CS2 (0x09) that ended OK with the result `x` (R91, R92). -/
def csEvent (op : Nat) (x : Half) : Event := ⟨word op 0 0, .ok, some x⟩

/-- The events of WRITEs of `vs` to consecutive registers from `base` up, each ending OK. -/
def blockEvents (base : Nat) (vs : List Half) (x : Option Half) : List Event :=
  vs.zipIdx.map fun q => writeEvent (base + q.2) q.1.toNat .ok x

/-- R162's listing as a history in which each command ended OK. CSUM reads `x` until CS1, then CS1's result `x1`, from
CS2 on CS2's result `x2`; the values that go to 0x2C and 0x3B are `v1` and `v2`. -/
def bootEvents (p : Safety.Profile) (x : Option Half) (x1 x2 v1 v2 : Half) (adjustmentFirst : Bool) : List Event :=
  [writeEvent 0x00 0x789A .ok x, writeEvent 0x02 p.functionEnable.toNat .ok x,
    writeEvent 0x03 p.sagThreshold.toNat .ok x, writeEvent 0x20 0x5678 .ok x] ++ blockEvents 0x21 p.block1 x ++
    [csEvent 0x08 x1, writeEvent 0x2C v1.toNat .ok (some x1), writeEvent 0x30 0x5678 .ok (some x1)] ++
    blockEvents 0x31 p.block2 (some x1) ++ [csEvent 0x09 x2, writeEvent 0x3B v2.toNat .ok (some x2)] ++
    if adjustmentFirst then [writeEvent 0x30 0x8765 .ok (some x2), writeEvent 0x20 0x8765 .ok (some x2)]
    else [writeEvent 0x20 0x8765 .ok (some x2), writeEvent 0x30 0x8765 .ok (some x2)]

end Sys2Proof.Expect

open Sys2Proof Sys2Proof.Machine Sys2Proof.Safety Sys2Proof.Expect

/-! ### Encoding -/

/-- Tier 3. Every instruction's encoding decodes to it, with every operand at every value (R63, R66 to R68). -/
def Obligations.DecodeOfEncode : Prop := ∀ i : Instr, decode (encode i) = .ok i

/-- Every command word that decodes is the encoding of what it decodes to: no two words are one instruction, since
every field a command does not use must be 0 (R68, R70). -/
def Obligations.EncodeOfDecodedWord : Prop := ∀ (w : Word) (i : Instr), decode (.command w) = .ok i → encode i = .command w

/-- R70 and the first four lines of R69: a command word is rejected exactly when its OP is not listed or a field its
command does not use is not 0. -/
def Obligations.WordRejectedExactlyWhenIllegal : Prop :=
  ∀ w : Word, (∃ e, decode (.command w) = .error e) ↔ ¬ legalWord w.toNat

/-- Words written out from R66 and R68 (spec/95_test_vectors.md 2.2 and 3) decode to their commands, and the header
bytes of 2.1 to their frames; some illegal words do not decode. -/
def Obligations.WrittenWordsDecode : Prop :=
  decode (.command 0x01030000) = .ok (.read 0x03) ∧ decode (.command 0x02031234) = .ok (.write 0x03 0x1234) ∧
  decode (.command 0x08000000) = .ok .cs1 ∧ decode (.command 0x09000000) = .ok .cs2 ∧
  decode (.command 0x10000000) = .ok .measV ∧ decode (.command 0x1B000000) = .ok .measERF ∧
  decode (.command 0x26008032) = .ok (.convPF 0x8032) ∧ decode (.command 0x2D00FFFF) = .ok (.convERA 0xFFFF) ∧
  decode (.frame 0xC9 0) = .ok (.frameRead 0x49) ∧ decode (.frame 0x20 0x5678) = .ok (.frameWrite 0x20 0x5678) ∧
  decode (.command 0x00000000) = .error .unknownOpcode ∧ decode (.command 0x01830000) = .error .reservedBit ∧
  decode (.command 0x20010000) = .error .unusedAddr ∧ decode (.command 0x10000001) = .error .unusedData

/-- R63: `header = (DIR << 7) | ADDR`, DIR at bit 7 and ADDR at bits 6:0. -/
def Obligations.HeaderByteLayout : Prop :=
  ∀ (dir : Bool) (a : Addr),
    headerByte dir a = (BitVec.ofNat 8 dir.toNat <<< 7) ||| a.setWidth 8 ∧
    (headerByte dir a).getLsbD 7 = dir ∧ (headerByte dir a).extractLsb' 0 7 = a

/-- R42: what the block may read and may write, class by class. -/
def Obligations.AddressClasses : Prop :=
  ∀ a : Addr,
    (a.toNat ≤ 0x3B → readable a = true ∧ writable a = true) ∧
    (0x3C ≤ a.toNat ∧ a.toNat ≤ 0x3F → readable a = false ∧ writable a = false) ∧
    (0x40 ≤ a.toNat ∧ a.toNat ≤ 0x6F → readable a = true ∧ writable a = false) ∧
    (0x70 ≤ a.toNat → readable a = false ∧ writable a = false)

/-- R49: a value travels high byte first, and a received pair is `first ++ second`. -/
def Obligations.BigEndianBytes : Prop :=
  (∀ v : Half, (hiByte v).toNat = v.toNat / 256 ∧ (loByte v).toNat = v.toNat % 256 ∧
    joinBytes (hiByte v) (loByte v) = v) ∧
  ∀ x y : Byte, (joinBytes x y).toNat = x.toNat * 256 + y.toNat

/-! ### The machine's steps -/

/-- A step of a valid instance runs the decoded instruction: IDLE, the request at the head of the port; BUSY, the
frame or the command word in progress. The step adds nothing around it. That a bare frame is a request of its own, at
the port and in progress, is the model's choice (notes/assumptions/10.md). -/
def Obligations.StepRunsTheDecodedInstruction : Prop :=
  ∀ (s : State) (i : Instr), s.cfg.timingOk = true →
    ((s.st = .idle ∧ ∃ r rest, s.port = r :: rest ∧ decode r = .ok i) ∨
     (s.st = .busy ∧ s.wire = none ∧ decode (.command s.cmd) = .ok i) ∨
     (s.st = .busy ∧ ∃ h d, s.wire = some (h, d) ∧ decode (.frame h d) = .ok i)) →
    step s = exec i s

/-- A row's word placed by `withFetchWord` is what the next step runs, whatever state it is placed in: a command word
of 32 bits, or a frame's header of 8. Where a program is placed (notes/assumptions/4.md) and that a header row runs as
a request of its own (10.md) are the model's choices. -/
def Obligations.PlacedWordRunsNext : Prop :=
  ∀ (s : State) (nbits w : Nat) (i : Instr), s.cfg.timingOk = true → decodeTableWord nbits w = some i →
    step (s.withFetchWord nbits w) = exec i (s.withFetchWord nbits w)

/-- R142: every word that R70 calls illegal ends in ILLEGAL_COMMAND (code 3) at decode, with no operation and no
result. -/
def Obligations.IllegalWordEndsTheCommand : Prop :=
  (∀ (s : State) (w : Word) (rest : List Request), s.cfg.timingOk = true → Ready s →
    s.port = .command w :: rest → ¬ legalWord w.toNat → step s = .next (ended w .illegalCommand s)) ∧
  codeBits .illegalCommand = 3

/-- R77, last sentence, and U12: an instance with a delay below its minimum is refused, when it is built and by every
step; any other is built, at reset, and never refused. R77 and U12 only refuse to build it: that every step of such a
state is refused too is the model's reading (notes/assumptions/14.md), and the registers R28 leaves unspecified are
built with the model's values (2.md). -/
def Obligations.InvalidInstanceRefused : Prop :=
  (∀ c : Config, (c.tPre < 5 ∨ c.tHdr < 4 ∨ c.tPost < 5) → State.build c = .refused .invalidInstance) ∧
  (∀ s : State, (s.cfg.tPre < 5 ∨ s.cfg.tHdr < 4 ∨ s.cfg.tPost < 5) → step s = .refused .invalidInstance) ∧
  (∀ c : Config, 5 ≤ c.tPre → 4 ≤ c.tHdr → 5 ≤ c.tPost → State.build c = .next { State.reset with cfg := c }) ∧
  ∀ s : State, 5 ≤ s.cfg.tPre → 4 ≤ s.cfg.tHdr → 5 ≤ s.cfg.tPost → ∃ t, step s = .next t

/-- R158, last sentence but one of its first paragraph: with nothing presented an IDLE block waits; U6 and R37: with
no answer from BusTransport a block in a byte exchange waits too. Neither changes anything; that the exchange which
waits is not in the trace yet is the model's choice (notes/assumptions/28.md). -/
def Obligations.WaitingChangesNothing : Prop :=
  (∀ s : State, s.cfg.timingOk = true → Ready s → s.port = [] → step s = .next s) ∧
  ∀ s : State, BlockInv s → s.resetIn = none → waitsOnBus s = true → step s = .next s

/-! ### READ, WRITE and the bare frames -/

/-- R82's pseudocode, a readable address and three bytes received: RDATA is the second byte received above the
third, and the whole next state. -/
def Obligations.ReadReturnsTheRegister : Prop :=
  ∀ (s : State) (a : Addr) (r : Byte × Byte × Byte) (rest : List Reply), Ready s → readable a = true →
    s.replies = repliesTo r ++ rest →
    exec (.read a) s = .next { framed (readBytes s.cfg a) r rest (ended (word 0x01 a.toNat 0) .ok s) with
      rdata := r.2.1 ++ r.2.2, rdataValid := true }

/-- R83's pseudocode, a writable address and three bytes received: the frame carries the value high byte first, no
result register is written, and the whole next state. -/
def Obligations.WriteSendsTheValue : Prop :=
  ∀ (s : State) (a : Addr) (v : Half) (r : Byte × Byte × Byte) (rest : List Reply), Ready s → writable a = true →
    s.replies = repliesTo r ++ rest →
    exec (.write a v) s = .next (framed (writeBytes a v) r rest (ended (word 0x02 a.toNat v.toNat) .ok s))

/-- R141: a READ or WRITE of an address it does not allow ends in INVALID_ADDRESS (code 2): no operation, no result
register or valid bit. The ranges are R141's own. -/
def Obligations.DisallowedAddressIsInvalidAddress : Prop :=
  (∀ (s : State) (a : Addr) (v : Half), Ready s → 0x3B < a.toNat →
    exec (.write a v) s = .next (ended (word 0x02 a.toNat v.toNat) .invalidAddress s)) ∧
  (∀ (s : State) (a : Addr), Ready s → (0x3C ≤ a.toNat ∧ a.toNat ≤ 0x3F ∨ 0x70 ≤ a.toNat ∧ a.toNat ≤ 0x7F) →
    exec (.read a) s = .next (ended (word 0x01 a.toNat 0) .invalidAddress s)) ∧
  codeBits .invalidAddress = 2

/-- R75's frame alone, for the wire-header rows: with an allowed address and three bytes received, the two data
bytes are in HB and LB, and no status, result or history is written. That a header row of the opcode table runs so is
the model's choice (notes/assumptions/10.md); the frame is the spec's. -/
def Obligations.BareFrameLeavesTheTwoBytes : Prop :=
  (∀ (s : State) (a : Addr) (r : Byte × Byte × Byte) (rest : List Reply), Ready s → readable a = true →
    s.replies = repliesTo r ++ rest →
    exec (.frameRead a) s = .next { framed (readBytes s.cfg a) r rest s with
      port := s.port.tail, mpc := 0, phase := .decode, wire := none }) ∧
  ∀ (s : State) (a : Addr) (v : Half) (r : Byte × Byte × Byte) (rest : List Reply), Ready s → writable a = true →
    s.replies = repliesTo r ++ rest →
    exec (.frameWrite a v) s = .next { framed (writeBytes a v) r rest s with
      port := s.port.tail, mpc := 0, phase := .decode, wire := none }

/-- The model's choices for a bare frame that does not complete (notes/assumptions/10.md and 11.md): a header the
block never sends (R65) is INVALID_ADDRESS with no operation, a failed exchange is the abort of R76 with BUS_ERROR. -/
def Obligations.BareFrameErrors : Prop :=
  (∀ (s : State) (a : Addr) (v : Half), Ready s →
    (readable a = false → exec (.frameRead a) s = .next { s with
      port := s.port.tail, mpc := 0, phase := .decode, wire := none, code := .invalidAddress, done := true }) ∧
    (writable a = false → exec (.frameWrite a v) s = .next { s with
      port := s.port.tail, mpc := 0, phase := .decode, wire := none, code := .invalidAddress, done := true })) ∧
  ∀ (s : State) (a : Addr) (v : Half) (got : List Byte) (rest : List Reply), Ready s → got.length ≤ 2 →
    s.replies = got.map .byte ++ .busError :: rest →
    (readable a = true → exec (.frameRead a) s = .next { aborted (readBytes s.cfg a) got rest s with
      port := s.port.tail, mpc := 0, phase := .decode, wire := none, code := .busError, done := true }) ∧
    (writable a = true → exec (.frameWrite a v) s = .next { aborted (writeBytes a v) got rest s with
      port := s.port.tail, mpc := 0, phase := .decode, wire := none, code := .busError, done := true })

/-- R76 and R140 for the commands of one frame, READ, WRITE and every MEAS.q, at each of the frame's three
exchanges: select is deasserted, nothing more is emitted, no result register is written, the code is BUS_ERROR. -/
def Obligations.FailedExchangeAbortsTheCommand : Prop :=
  ∀ (s : State) (i : Instr) (b : Byte × Byte × Byte) (w : Word) (got : List Byte) (rest : List Reply), Ready s →
    oneFrame s.cfg i = some b → encode i = .command w → got.length ≤ 2 →
    s.replies = got.map .byte ++ .busError :: rest →
    exec i s = .next (aborted b got rest (ended w .busError s))

/-- R80: with T_DATA = 0 and T_GAP = 0 the frame of READ, WRITE or MEAS.q that succeeds emits exactly eight
operations; and the trace `frameOps`, in which `ChecksumCommandsFoldTheirRange` and `BareFrameLeavesTheTwoBytes` give
the frames of CS1, CS2 and the bare frames, is those eight too. -/
def Obligations.FrameEmitsEightOperations : Prop :=
  (∀ (s : State) (i : Instr) (b r : Byte × Byte × Byte) (rest : List Reply), Ready s → s.cfg.tData = 0 → s.cfg.tGap = 0 →
    oneFrame s.cfg i = some b → s.replies = repliesTo r ++ rest →
    ∃ t, exec i s = .next t ∧ t.code = .ok ∧ t.trace = s.trace ++
      [.selAssert, .delayUs s.cfg.tPre, .xchg b.1 (.byte r.1), .delayUs s.cfg.tHdr, .xchg b.2.1 (.byte r.2.1),
       .xchg b.2.2 (.byte r.2.2), .delayUs s.cfg.tPost, .selDeassert]) ∧
  ∀ (c : Config) (b r : Byte × Byte × Byte), c.tData = 0 → c.tGap = 0 →
    frameOps c b r = [.selAssert, .delayUs c.tPre, .xchg b.1 (.byte r.1), .delayUs c.tHdr, .xchg b.2.1 (.byte r.2.1),
      .xchg b.2.2 (.byte r.2.2), .delayUs c.tPost, .selDeassert]

/-- R84: on the test double of R60, a WRITE that ends OK and then a READ of the same configuration register that ends
OK leave RDATA at the value written. -/
def Obligations.WriteThenReadOnTheDouble : Prop :=
  ∀ (s t u : State) (a : Addr) (v : Half) (d d1 d2 : Double) (rs : List Reply), Ready s → a.toNat ≤ 0x3B →
    exec (.write a v) s = .next t → t.st = .idle → t.code = .ok →
    doubleRun d (t.trace.drop s.trace.length) = some d1 →
    exec (.read a) { t with replies := rs } = .next u → u.st = .idle → u.code = .ok →
    doubleRun d1 (u.trace.drop t.trace.length) = some d2 →
    u.rdata = v ∧ u.rdataValid = true

/-! ### The checksum engine -/

/-- R87, R88 and R90 for CS1 (0x21 to 0x2B) and CS2 (0x31 to 0x3A), R91 and R92: the registers of the range are read in
order, once each, and nothing else is; CSUM is `X ++ S` of the bytes received; the whole next state, for every state,
configuration and received bytes. That FIDX is 10 after CS1, where R85's loop has counted to 11 and R23 gives FIDX the
values 0 to 10, is the model's choice (notes/assumptions/8.md). -/
def Obligations.ChecksumCommandsFoldTheirRange : Prop :=
  ∀ (s : State) (i : Instr) (op base count : Nat) (rs : List (Byte × Byte × Byte)) (last : Byte × Byte × Byte)
    (rest : List Reply), Ready s →
    (i = .cs1 ∧ op = 0x08 ∧ base = 0x21 ∧ count = 11) ∨ (i = .cs2 ∧ op = 0x09 ∧ base = 0x31 ∧ count = 10) →
    rs.length = count → rs.getLast? = some last → s.replies = repliesToAll rs ++ rest →
    exec i s = .next { ended (word op 0 0) .ok s with
      history := s.history ++ [csEvent op (xorBytes rs ++ sumBytes rs)], sel := false, hb := last.2.1, lb := last.2.2,
      replies := rest, trace := s.trace ++ foldOps s.cfg base rs,
      sum8 := sumBytes rs, xor8 := xorBytes rs, fidx := 10,
      csum := xorBytes rs ++ sumBytes rs, csumValid := true }

/-- R89: a Fold's frame that aborts, after any number of complete frames and at any of its exchanges, ends the
command in BUS_ERROR; no further frame is sent, and every register but the frame's and the fold's own is as before. -/
def Obligations.FailedExchangeKeepsTheChecksum : Prop :=
  ∀ (s : State) (i : Instr) (op base count : Nat) (rs : List (Byte × Byte × Byte)) (got : List Byte)
    (rest : List Reply), Ready s →
    (i = .cs1 ∧ op = 0x08 ∧ base = 0x21 ∧ count = 11) ∨ (i = .cs2 ∧ op = 0x09 ∧ base = 0x31 ∧ count = 10) →
    rs.length < count → got.length ≤ 2 →
    s.replies = repliesToAll rs ++ (got.map .byte ++ .busError :: rest) →
    ∃ t, exec i s = .next t ∧
      t = { ended (word op 0 0) .busError s with
        sel := false, replies := rest,
        trace := s.trace ++ foldOps s.cfg base rs ++
          abortOps s.cfg (readBytes s.cfg (BitVec.ofNat 7 (base + rs.length))) got,
        hb := t.hb, lb := t.lb, sum8 := t.sum8, xor8 := t.xor8, fidx := t.fidx }

/-! ### The measurement converter -/

/-- R108 for the fourteen MEAS.q of R109 to R122: one READ frame of the quantity's register, RDATA the bytes received,
and the exact pair of R96 to R104 with the quantity's code; the whole next state. -/
def Obligations.MeasReadsAndConverts : Prop :=
  ∀ (s : State) (i : Instr) (k : Quantity) (op : Nat) (r : Byte × Byte × Byte) (rest : List Reply), Ready s →
    (i, k, op) ∈ measTable → s.replies = repliesTo r ++ rest →
    exec i s = .next
      { framed (readBytes s.cfg (BitVec.ofNat 7 (registerOf s.cfg.measMap k))) r rest (ended (word op 0 0) .ok s) with
        rdata := r.2.1 ++ r.2.2, rdataValid := true,
        convM := (pairOf s.cfg (r.2.1 ++ r.2.2) k).1, convD := (pairOf s.cfg (r.2.1 ++ r.2.2) k).2,
        convQ := BitVec.ofNat 4 op, convValid := true }

/-- R123 for the fourteen CONV.q of R124 to R137: the exact pair of R96 to R104 of the operand with the quantity's
code, no operation, RDATA as before; the whole next state. The operand is `CMD[15:0]`, and `CMD[23:16]` is 0 in every
word that decodes to it. -/
def Obligations.ConvConvertsTheOperand : Prop :=
  (∀ (s : State) (i : Instr) (k : Quantity) (op : Nat) (r : Half), Ready s → (i, k, op) ∈ convTable r →
    exec i s = .next { ended (word op 0 r.toNat) .ok s with
      convM := (pairOf s.cfg r k).1, convD := (pairOf s.cfg r k).2, convQ := BitVec.ofNat 4 op, convValid := true }) ∧
  ∀ (w : Word) (i : Instr) (k : Quantity) (op : Nat) (r : Half), (i, k, op) ∈ convTable r →
    decode (.command w) = .ok i → w = word op 0 r.toNat

/-- R138: a MEAS.q that receives `r[15:8]` then `r[7:0]` leaves the CONV registers a CONV.q of `r` leaves. -/
def Obligations.MeasAgreesWithConv : Prop :=
  ∀ (s t : State) (i j : Instr) (k : Quantity) (m n : Nat) (r : Half) (r0 : Byte) (rest : List Reply), Ready s → Ready t →
    s.cfg = t.cfg → (i, k, m) ∈ measTable → (j, k, n) ∈ convTable r →
    s.replies = .byte r0 :: .byte (BitVec.ofNat 8 (r.toNat / 256)) :: .byte (BitVec.ofNat 8 (r.toNat % 256)) :: rest →
    ∃ s' t', exec i s = .next s' ∧ exec j t = .next t' ∧
      s'.convM = t'.convM ∧ s'.convD = t'.convD ∧ s'.convQ = t'.convQ ∧ s'.convValid = true ∧ t'.convValid = true

/-- R106: every conversion is the exact pair of R96 to R104, in Int and Nat, and fits the widths of R26. -/
def Obligations.ConversionsFitTheWidths : Prop :=
  ∀ (c : Config) (r : Half) (k : Quantity), convert c r k = pairOf c r k ∧
    (convert c r k).1.natAbs ≤ 65535 * 65535 ∧ (convert c r k).1.natAbs < 2 ^ 32 ∧
    1 ≤ (convert c r k).2 ∧ (convert c r k).2 ≤ 100 * 65535 ∧ (convert c r k).2 < 2 ^ 23

/-- R96: `conv_V`, with its corner cases. -/
def Obligations.VoltageConversion : Prop :=
  (∀ (c : Config) (r : Half), convert c r .v = (zext r * zext c.vgainNum, 100 * c.vgainDen)) ∧
  (∀ c : Config, (convert c 0 .v).1 = 0) ∧
  (∀ (c : Config) (r : Half), c.vgainNum = 0 → (convert c r .v).1 = 0) ∧
  (∀ c : Config, c.vgainNum = 1 → c.vgainDen = 1 → convert c 0xFFFF .v = (65535, 100)) ∧
  ∀ c : Config, 1 ≤ c.vgainDen ∧ c.vgainDen ≤ 65535

/-- R98: `conv_P` with its corner cases, for both values of P_DIV. -/
def Obligations.ActivePowerConversion : Prop :=
  ∀ c : Config, (∀ r : Half, convert c r .p = (sext16 r, pDivValue c.pDiv)) ∧
    (pDivValue c.pDiv = 1 ∨ pDivValue c.pDiv = 1000) ∧
    convert c 0xFFFE .p = (-2, pDivValue c.pDiv) ∧ convert c 0x8000 .p = (-32768, pDivValue c.pDiv) ∧
    convert c 0x7FFF .p = (32767, pDivValue c.pDiv) ∧ convert c 0xFFFF .p = (-1, pDivValue c.pDiv)

/-- R101: `conv_PF` is signed magnitude over 1000, with its corner cases; in particular negative zero is zero and
nothing is clamped. -/
def Obligations.PowerFactorConversion : Prop :=
  ∀ c : Config,
    (∀ r : Half, convert c r .pf =
      (if r.getLsbD 15 then -((r.toNat % 2 ^ 15 : Nat) : Int) else ((r.toNat % 2 ^ 15 : Nat) : Int), 1000)) ∧
    convert c 0x8032 .pf = (-50, 1000) ∧ convert c 0x0032 .pf = (50, 1000) ∧ convert c 0x8000 .pf = (0, 1000) ∧
    convert c 0xFFFF .pf = (-32767, 1000) ∧ convert c 0x7FFF .pf = (32767, 1000)

/-- R97, R100, R103 and R104: the unsigned conversions with their corner cases. -/
def Obligations.UnsignedConversions : Prop :=
  ∀ c : Config,
    (∀ r : Half, convert c r .i = (zext r, 1000) ∧ convert c r .f = (zext r, 100) ∧
      convert c r .eaf = (zext r, 1) ∧ convert c r .ear = (zext r, 1) ∧ convert c r .eaa = (zext r, 1) ∧
      convert c r .erf = (zext r, 10) ∧ convert c r .err = (zext r, 10) ∧ convert c r .era = (zext r, 10)) ∧
    convert c 0 .i = (0, 1000) ∧ convert c 0xFFFF .i = (65535, 1000) ∧ convert c 0x8000 .i = (32768, 1000) ∧
    convert c 0x1388 .f = (5000, 100) ∧ convert c 0xFFFF .f = (65535, 100) ∧
    (∀ k ∈ [Quantity.eaf, .ear, .eaa], convert c 0xFFFF k = (65535, 1) ∧ convert c 0x8000 k = (32768, 1)) ∧
    ∀ k ∈ [Quantity.erf, .err, .era], convert c 3 k = (3, 10) ∧ convert c 0xFFFF k = (65535, 10)

/-- R99 and R102: the two's-complement conversions that are taken as they are, with their corner cases. -/
def Obligations.SignedConversions : Prop :=
  ∀ c : Config,
    (∀ (r : Half), ∀ k ∈ [Quantity.q, .s, .pa], convert c r k = (sext16 r, 1)) ∧
    (∀ k ∈ [Quantity.q, .s], convert c 0xFFFF k = (-1, 1) ∧ convert c 0x8000 k = (-32768, 1) ∧
      convert c 0x7FFF k = (32767, 1)) ∧
    convert c 0xFF9C .pa = (-100, 1) ∧ convert c 0x8000 .pa = (-32768, 1)

/-- R11: the three readings of a u16, each by the rule's own formula. -/
def Obligations.SignReadings : Prop :=
  (∀ v : Half, zext v = (v.toNat : Int)) ∧
  (∀ v : Half, sext16 v = if v.getLsbD 15 then zext v - 65536 else zext v) ∧
  (∀ v : Half, sext16 v = v.toInt) ∧
  (∀ v : Half, sm16 v = if v.getLsbD 15 then -((v.toNat % 2 ^ 15 : Nat) : Int) else ((v.toNat % 2 ^ 15 : Nat) : Int)) ∧
  sm16 0x8000 = 0

/-! ### Status, results, errors -/

/-- R139: the numbers of the status codes. -/
def Obligations.StatusCodeNumbers : Prop :=
  codeBits .ok = 0 ∧ codeBits .busError = 1 ∧ codeBits .invalidAddress = 2 ∧ codeBits .illegalCommand = 3 ∧
  ∀ s : State, readStatus s = (codeBits s.code, s.done)

/-- R35, R36 and R146: a command word presented to a ready block is accepted in the step. If the step leaves the block
IDLE, the command has ended: DONE is 1, MPC is 0, and the history has exactly one event more: its word with its code,
and the CSUM it leaves (notes/assumptions/20.md).
If it leaves the block BUSY, CMD holds the word, DONE is 0 and nothing is reported yet. The request has left the port
either way. -/
def Obligations.CommandEndsWithOneStatus : Prop :=
  ∀ (s t : State) (w : Word) (rest : List Request), Ready s → s.port = .command w :: rest → step s = .next t →
    t.port = rest ∧ t.cmd = w ∧
    (t.st = .idle → t.done = true ∧ t.mpc = 0 ∧ t.history = s.history ++ [⟨w, t.code, csumOf t⟩]) ∧
    (t.st = .busy → t.done = false ∧ t.code = s.code ∧ t.history = s.history)

/-- R35 and U17: while the block is BUSY no step takes a command: what the host presents stays at the port. -/
def Obligations.BusyTakesNoCommand : Prop :=
  ∀ s t : State, s.st = .busy → step s = .next t → t.port = s.port

/-- R29: with no reset coming, an instruction writes no result register but its own, from any state and whatever
becomes of it. -/
def Obligations.ResultRegistersOfOthersKept : Prop :=
  ∀ (i : Instr) (s t : State), s.resetIn = none → exec i s = .next t →
    (writesRData i = false → t.rdata = s.rdata ∧ t.rdataValid = s.rdataValid) ∧
    (writesCsum i = false → t.csum = s.csum ∧ t.csumValid = s.csumValid) ∧
    (writesConv i = false → t.convM = s.convM ∧ t.convD = s.convD ∧ t.convQ = s.convQ ∧ t.convValid = s.convValid) ∧
    (writesCsum i = false → t.sum8 = s.sum8 ∧ t.xor8 = s.xor8 ∧ t.fidx = s.fidx)

/-- R29, last sentence, and R145: a command that ends in an error writes no result register or valid bit, whichever
command and whichever error, and leaves SEL 0 and the block IDLE with MPC 0. -/
def Obligations.ErrorsWriteNoResult : Prop :=
  ∀ (s t : State) (w : Word) (rest : List Request), Ready s → s.sel = false → s.port = .command w :: rest →
    step s = .next t → t.st = .idle → t.code ≠ .ok →
    results t = results s ∧ t.sel = false ∧ t.mpc = 0 ∧ t.done = true

/-- R31: with no reset coming, an instruction only appends to the trace. -/
def Obligations.TraceOnlyGrows : Prop :=
  ∀ (i : Instr) (s t : State), s.resetIn = none → exec i s = .next t → ∃ ops, t.trace = s.trace ++ ops

/-- R9: no step changes the configuration, not even one in which a reset arrives (R158). -/
def Obligations.ConfigurationNeverChanges : Prop := ∀ s t : State, step s = .next t → t.cfg = s.cfg

/-- R34: a host read of a result whose valid bit is 0 is the fault ResultNotValid; otherwise it is the register. -/
def Obligations.HostReadNeedsTheValidBit : Prop :=
  ∀ s : State,
    (s.rdataValid = false → readRData s = .error .resultNotValid) ∧ (s.rdataValid = true → readRData s = .ok s.rdata) ∧
    (s.csumValid = false → readCsum s = .error .resultNotValid) ∧ (s.csumValid = true → readCsum s = .ok s.csum) ∧
    (s.convValid = false → readConv s = .error .resultNotValid) ∧
    (s.convValid = true → readConv s = .ok (s.convM, s.convD, s.convQ))

/-! ### Reset -/

/-- R28, as far as it gives values: the machine after reset. -/
def Obligations.ResetValues : Prop :=
  State.reset.st = .idle ∧ State.reset.sel = false ∧ State.reset.mpc = 0 ∧ State.reset.fidx = 0 ∧
  State.reset.rdataValid = false ∧ State.reset.csumValid = false ∧ State.reset.convValid = false ∧
  State.reset.code = .ok ∧ State.reset.done = false ∧ State.reset.trace = [] ∧
  readRData State.reset = .error .resultNotValid ∧ readCsum State.reset = .error .resultNotValid ∧
  readConv State.reset = .error .resultNotValid ∧ cmdReady State.reset = true

/-- R158: a reset that arrives puts the block, whatever it is doing, into the state of R28; the configuration does not
change. The registers R28 leaves unspecified hold the model's values (notes/assumptions/2.md), and the inputs waiting
outside stay (5.md); both are the model's choice. -/
def Obligations.ResetAbandonsTheCommand : Prop :=
  ∀ s : State, s.cfg.timingOk = true → s.resetIn = some 0 →
    step s = .next { State.reset with cfg := s.cfg, port := s.port, replies := s.replies }

/-- R159: a reset that arrives in the middle of an instruction, after any number of its steps, leaves SEL 0, writes no
result and reports no status; every register R28 gives a value has it, and the trace is empty. That the model's own
history is empty too is its choice (notes/assumptions/5.md). -/
def Obligations.ResetMayArriveAtAnyStep : Prop :=
  ∀ (i : Instr) (s t : State) (n : Nat), s.resetIn = some n → exec i s = .next t → t.resetIn = none →
    t.st = .idle ∧ t.sel = false ∧ t.mpc = 0 ∧ t.fidx = 0 ∧
      t.rdataValid = false ∧ t.csumValid = false ∧ t.convValid = false ∧
      t.code = .ok ∧ t.done = false ∧ t.history = [] ∧ t.trace = [] ∧ t.cfg = s.cfg

/-! ### Every step -/

/-- The invariant at reset, for every valid configuration. -/
def Obligations.InvariantAtReset : Prop :=
  BlockInv State.reset ∧ ∀ (c : Config) (t : State), State.build c = .next t → BlockInv t

/-- Tier 3. Every step keeps the invariant: the trace on the bus is a sequence of frames that meet the windows of R77
and send only the headers of R65, each bracketed by SEL as R79 says, aborted ones included; MPC, SEL and the phase
belong together (R22, R79); DONE is 0 while a command runs (R27); a valid conversion result is a pair within R26; FIDX is 0 to 10 (R23). -/
def Obligations.StepKeepsTheInvariant : Prop := ∀ s t : State, BlockInv s → step s = .next t → BlockInv t

/-- R23: FIDX has the values 0 to 10, and every step keeps it so, from any state in which it is, in the invariant or
not. The address of a fold's frame is `base + FIDX` (R23, R85) while FIDX is below the count. In a state of the
invariant whose command in progress is CS1 or CS2 and whose next action is a step of a frame, FIDX is below that
command's count and the frame is the READ frame of `base + FIDX`: CS1 reads only 0x21 to 0x2B, CS2 only 0x31 to 0x3A
(R88). That FIDX is 10 when CS1's loop is over is the model's choice (notes/assumptions/8.md). -/
def Obligations.FoldIndexStaysInRange : Prop :=
  (∀ s t : State, s.fidx.toNat ≤ 10 → step s = .next t → t.fidx.toNat ≤ 10) ∧
  (∀ s : State,
    (s.fidx.toNat < 11 → (foldAddr cs1Base s).toNat = 0x21 + s.fidx.toNat) ∧
    (s.fidx.toNat < 10 → (foldAddr cs2Base s).toNat = 0x31 + s.fidx.toNat)) ∧
  ∀ s : State, BlockInv s → s.phase = .frame →
    (currentInstr s = some .cs1 → s.fidx.toNat ≤ 10 ∧
      (foldMicro cs1Base cs1Count).send s = some (readFrame s.cfg (BitVec.ofNat 7 (0x21 + s.fidx.toNat)))) ∧
    (currentInstr s = some .cs2 → s.fidx.toNat ≤ 9 ∧
      (foldMicro cs2Base cs2Count).send s = some (readFrame s.cfg (BitVec.ofNat 7 (0x31 + s.fidx.toNat))))

/-- R150 with R37: from a state of the invariant every step answers a next state in which the block is IDLE or waits
on BusTransport for an answer that has not come: no instruction runs on, and none stops anywhere else. That one step
of the model is the run of R37's steps up to there is its choice (notes/assumptions/1.md). -/
def Obligations.StepEndsOrWaitsOnTheBus : Prop :=
  ∀ s : State, BlockInv s → ∃ t, step s = .next t ∧ (t.st = .idle ∨ waitsOnBus t = true)

/-- R18 and R37: it makes no difference when BusTransport answers. With answers in two parts, an instruction that
waited after the first part and is taken up with the second ends as with all of them at once; one that did not wait
leaves the second part untouched. -/
def Obligations.AnswersMayComeLater : Prop :=
  ∀ (i : Instr) (s t : State) (later : List Reply), Ready s → exec i s = .next t →
    (t.st = .idle → exec i { s with replies := s.replies ++ later } = .next { t with replies := t.replies ++ later }) ∧
    (t.st = .busy → t.replies = [] ∧
      exec i { s with replies := s.replies ++ later } = exec i { t with replies := later })

/-! ### The host's duties -/

/-- R162 and R165: a history that ends in R162's listing, each command ended OK, is a complete initialization exactly
when the values that went to 0x2C and 0x3B are what CSUM read; and where no checksum was due before it, it meets R166
exactly then. For every profile, either order of the locks, and whatever came before (R163). The 200 ms wait of R161
does not show (notes/assumptions/21.md); the events with their CSUM (20.md) and the two predicates (22.md) are the
model's choice. -/
def Obligations.BootSequenceInitializes : Prop :=
  ∀ (p : Profile) (h : List Event) (x : Option Half) (x1 x2 v1 v2 : Half) (adjustmentFirst : Bool),
    p.block1.length = 11 → p.block2.length = 10 →
    (initComplete p (h ++ bootEvents p x x1 x2 v1 v2 adjustmentFirst) = true ↔ v1 = x1 ∧ v2 = x2) ∧
    (checksumDuty h = true →
      (checksumDuty (h ++ bootEvents p x x1 x2 v1 v2 adjustmentFirst) = true ↔ v1 = x1 ∧ v2 = x2))

/-- R163 and R165: after a command that ended in an error no history is a complete initialization. The predicate is
the model's (notes/assumptions/22.md). -/
def Obligations.ErrorUndoesInitialization : Prop :=
  ∀ (p : Profile) (h : List Event) (w : Word) (c : Code) (x : Option Half), c ≠ .ok →
    initComplete p (h ++ [⟨w, c, x⟩]) = false

/-- R166 for both ranges: after any WRITE to the range, however it ended, the duty is not met, whatever came before. A
WRITE of the checksum register with no CS command since does not meet it. A CS command that ended OK and then a WRITE
of the checksum register do, exactly when the value written is that command's result. How R166 reads on a history is
the model's choice (notes/assumptions/22.md). -/
def Obligations.RangeWriteMakesTheChecksumDue : Prop :=
  ∀ (h : List Event) (op lo hi target : Nat) (a : Addr) (v u y : Half) (c : Code) (x x' x'' : Option Half),
    (op = 0x08 ∧ lo = 0x21 ∧ hi = 0x2B ∧ target = 0x2C) ∨ (op = 0x09 ∧ lo = 0x31 ∧ hi = 0x3A ∧ target = 0x3B) →
    lo ≤ a.toNat → a.toNat ≤ hi →
    checksumDuty (h ++ [writeEvent a.toNat v.toNat c x]) = false ∧
    checksumDuty (h ++ [writeEvent a.toNat v.toNat c x, writeEvent target u.toNat .ok x']) = false ∧
    (checksumDuty h = true →
      (checksumDuty (h ++ [writeEvent a.toNat v.toNat .ok x, csEvent op y, writeEvent target u.toNat .ok x'']) = true ↔
        u = y))

/-! ### Two instances -/

/-- R155: on buses of their own, a step of one instance is its own step and leaves the other as it is; on one bus, a
step that would run a frame while the other's is in progress is refused. What 'at the same time' means step by step is
the model's reading (notes/assumptions/18.md). -/
def Obligations.InstancesAreIndependent : Prop :=
  (∀ s o t : State, step s = .next t → stepApart true (s, o) = .next (t, o) ∧ stepApart false (o, s) = .next (o, t)) ∧
  (∀ s o : State, o.sel = true → (s.sel = true ∨ wantsBus s = true) →
    stepShared true (s, o) = .refused .sharedBus ∧ stepShared false (o, s) = .refused .sharedBus) ∧
  ∀ s o t : State, o.sel = false → step s = .next t → stepShared true (s, o) = .next (t, o)
end

