-- ==== Sys2Proof/Laws/Double.lean ====
section
/-! SUPPORT. The register store of the test double (20_memory.md R60): reads after writes, and its canonical form. -/

namespace Sys2Proof.Machine

/-- A read of the address just written gives the value written. -/
@[simp] theorem readRegister_writeRegister_same (m : Registers) (a : Nat) (v : Half) :
    readRegister (writeRegister m a v) a = some v := by
  induction m with
  | nil => simp [writeRegister, readRegister]
  | cons x m ih =>
    obtain ⟨b, w⟩ := x
    simp only [writeRegister]
    split
    · simp [readRegister]
    · split
      · simp [readRegister]
      · rename_i h; simp [readRegister, h, ih]

/-- A write leaves every other address as it was. -/
theorem readRegister_writeRegister_other (m : Registers) (a c : Nat) (v : Half) (h : c ≠ a) :
    readRegister (writeRegister m a v) c = readRegister m c := by
  induction m with
  | nil => simp [writeRegister, readRegister, h]
  | cons x m ih =>
    obtain ⟨b, w⟩ := x
    simp only [writeRegister]
    split
    · simp [readRegister, h]
    · split
      · rename_i e; subst e; simp [readRegister, h]
      · simp [readRegister, ih]

/-- The addresses a write leaves listed. -/
theorem mem_writeRegister (m : Registers) (a : Nat) (v : Half) (x : Nat × Half) (h : x ∈ writeRegister m a v) :
    x = (a, v) ∨ x ∈ m := by
  induction m with
  | nil => simpa [writeRegister] using h
  | cons y m ih =>
    obtain ⟨b, w⟩ := y
    simp only [writeRegister] at h
    split at h
    · simpa using h
    · split at h
      · simp only [List.mem_cons] at h ⊢; tauto
      · simp only [List.mem_cons] at h ⊢
        rcases h with h | h
        · exact .inr (.inl h)
        · have := ih h; tauto

/-- A write keeps the canonical form. -/
theorem registersWf_writeRegister (m : Registers) (a : Nat) (v : Half) (h : registersWf m = true) :
    registersWf (writeRegister m a v) = true := by
  simp only [registersWf, decide_eq_true_eq] at *
  induction m with
  | nil => simp [writeRegister]
  | cons y m ih =>
    obtain ⟨b, w⟩ := y
    simp only [List.pairwise_cons] at h
    simp only [writeRegister]
    split
    · rename_i hab
      simp only [List.pairwise_cons, List.mem_cons]
      refine ⟨?_, h⟩
      rintro z (rfl | hz)
      · exact hab
      · exact Nat.lt_trans hab (h.1 z hz)
    · split
      · rename_i e; subst e
        exact List.pairwise_cons.mpr h
      · rename_i h1 h2
        refine List.pairwise_cons.mpr ⟨fun z hz => ?_, ih h.2⟩
        rcases mem_writeRegister m a v z hz with rfl | hz
        · show b < a; omega
        · exact h.1 z hz

end Sys2Proof.Machine
end

