-- ==== Sys2Proof/Laws/Exec.lean ====
section
/-! SUPPORT. Every instruction is run by `perform`, with the parts its meaning supplies. -/

namespace Sys2Proof.Machine

/-- The parts each instruction's meaning supplies to the block's steps. -/
def microOf : Instr → Micro
  | .read a => readMicro a
  | .write a v => writeMicro a v
  | .cs1 => foldMicro cs1Base cs1Count
  | .cs2 => foldMicro cs2Base cs2Count
  | .measV => measMicro .v
  | .measI => measMicro .i
  | .measP => measMicro .p
  | .measQ => measMicro .q
  | .measS => measMicro .s
  | .measF => measMicro .f
  | .measPF => measMicro .pf
  | .measPA => measMicro .pa
  | .measEAF => measMicro .eaf
  | .measEAR => measMicro .ear
  | .measEAA => measMicro .eaa
  | .measERF => measMicro .erf
  | .measERR => measMicro .err
  | .measERA => measMicro .era
  | .convV r => convMicro .v r
  | .convI r => convMicro .i r
  | .convP r => convMicro .p r
  | .convQ r => convMicro .q r
  | .convS r => convMicro .s r
  | .convF r => convMicro .f r
  | .convPF r => convMicro .pf r
  | .convPA r => convMicro .pa r
  | .convEAF r => convMicro .eaf r
  | .convEAR r => convMicro .ear r
  | .convEAA r => convMicro .eaa r
  | .convERF r => convMicro .erf r
  | .convERR r => convMicro .err r
  | .convERA r => convMicro .era r
  | .frameRead a => frameReadMicro a
  | .frameWrite a v => frameWriteMicro a v

theorem exec_eq (i : Instr) (s : State) : exec i s = .next (perform (encode i) (microOf i) s) := by
  cases i <;> rfl

/-- The minima of R77, as numbers. -/
theorem timingOk_iff (c : Config) : c.timingOk = true ↔ 5 ≤ c.tPre ∧ 4 ≤ c.tHdr ∧ 5 ≤ c.tPost := by
  simp only [Config.timingOk, Bool.and_eq_true, decide_eq_true_eq, and_assoc]; rfl

/-- Every step of a valid instance answers a next state, one of three kinds. -/
theorem step_eq (s : State) (h : s.cfg.timingOk = true) :
    step s = .next (match currentRequest s with
      | none => waitIdle s
      | some r => match decode r with
        | .ok i => perform (encode i) (microOf i) s
        | .error _ => performIllegal r s) := by
  simp only [step, h, if_true]
  cases currentRequest s with
  | none => rfl
  | some r =>
    dsimp only
    cases decode r with
    | ok i => exact exec_eq i s
    | error e => rfl

/-- A step that answers a next state is one of a valid instance. -/
theorem timingOk_of_step (s t : State) (h : step s = .next t) : s.cfg.timingOk = true := by
  unfold step at h
  split at h
  · assumption
  · cases h

/-- The eight shapes an instruction's parts have. -/
theorem microOf_elim {P : Instr → Micro → Prop} (hread : ∀ a, P (.read a) (readMicro a))
    (hwrite : ∀ a v, P (.write a v) (writeMicro a v)) (hcs1 : P .cs1 (foldMicro cs1Base cs1Count))
    (hcs2 : P .cs2 (foldMicro cs2Base cs2Count)) (hmeas : ∀ k, P (measInstr k) (measMicro k))
    (hconv : ∀ r k, P (convInstr r k) (convMicro k r)) (hframeRead : ∀ a, P (.frameRead a) (frameReadMicro a))
    (hframeWrite : ∀ a v, P (.frameWrite a v) (frameWriteMicro a v)) : ∀ i, P i (microOf i)
  | .read a => hread a
  | .write a v => hwrite a v
  | .cs1 => hcs1
  | .cs2 => hcs2
  | .measV => hmeas .v
  | .measI => hmeas .i
  | .measP => hmeas .p
  | .measQ => hmeas .q
  | .measS => hmeas .s
  | .measF => hmeas .f
  | .measPF => hmeas .pf
  | .measPA => hmeas .pa
  | .measEAF => hmeas .eaf
  | .measEAR => hmeas .ear
  | .measEAA => hmeas .eaa
  | .measERF => hmeas .erf
  | .measERR => hmeas .err
  | .measERA => hmeas .era
  | .convV r => hconv r .v
  | .convI r => hconv r .i
  | .convP r => hconv r .p
  | .convQ r => hconv r .q
  | .convS r => hconv r .s
  | .convF r => hconv r .f
  | .convPF r => hconv r .pf
  | .convPA r => hconv r .pa
  | .convEAF r => hconv r .eaf
  | .convEAR r => hconv r .ear
  | .convEAA r => hconv r .eaa
  | .convERF r => hconv r .erf
  | .convERR r => hconv r .err
  | .convERA r => hconv r .era
  | .frameRead a => hframeRead a
  | .frameWrite a v => hframeWrite a v

/-- Everything a step that answers a next state can do. -/
theorem step_cases {s t : State} (h : step s = .next t) :
    s.cfg.timingOk = true ∧
    ((currentRequest s = none ∧ t = waitIdle s) ∨
     ∃ r, currentRequest s = some r ∧
      ((∃ i, decode r = .ok i ∧ t = perform (encode i) (microOf i) s) ∨
       ∃ e, decode r = .error e ∧ t = performIllegal r s)) := by
  have ht := timingOk_of_step s t h
  refine ⟨ht, ?_⟩
  rw [step_eq s ht] at h
  injection h with h
  subst h
  cases hc : currentRequest s with
  | none => exact .inl ⟨rfl, rfl⟩
  | some r =>
    refine .inr ⟨r, rfl, ?_⟩
    cases hd : decode r with
    | ok i => exact .inl ⟨i, rfl, by simp [hd]⟩
    | error e => exact .inr ⟨e, rfl, by simp [hd]⟩

end Sys2Proof.Machine
end

