-- ==== Sys2Proof/Laws/Operands.lean ====
section
/-! SUPPORT. The small lemmas of the operand forms: bytes and values (R49), signs (R11), headers (R63), addresses. -/

namespace Sys2Proof.Machine

theorem toNat_hiByte (v : Half) : (hiByte v).toNat = v.toNat / 256 := by
  have := v.isLt
  simp only [hiByte, BitVec.extractLsb'_toNat, Nat.shiftRight_eq_div_pow]; omega

theorem toNat_loByte (v : Half) : (loByte v).toNat = v.toNat % 256 := by
  simp [loByte, BitVec.extractLsb'_toNat]

/-- An append of two fields, as a number. -/
theorem toNat_append_eq {m n : Nat} (x : BitVec m) (y : BitVec n) : (x ++ y).toNat = x.toNat * 2 ^ n + y.toNat := by
  rw [BitVec.toNat_append, ← Nat.shiftLeft_add_eq_or_of_lt y.isLt, Nat.shiftLeft_eq]

theorem toNat_joinBytes (x y : Byte) : (joinBytes x y).toNat = x.toNat * 256 + y.toNat := toNat_append_eq x y

@[simp] theorem hiByte_joinBytes (x y : Byte) : hiByte (joinBytes x y) = x := by
  have := y.isLt
  apply BitVec.eq_of_toNat_eq; rw [toNat_hiByte, toNat_joinBytes]; omega

@[simp] theorem loByte_joinBytes (x y : Byte) : loByte (joinBytes x y) = y := by
  have := y.isLt
  apply BitVec.eq_of_toNat_eq; rw [toNat_loByte, toNat_joinBytes]; omega

@[simp] theorem joinBytes_hi_lo (v : Half) : joinBytes (hiByte v) (loByte v) = v := by
  apply BitVec.eq_of_toNat_eq; rw [toNat_joinBytes, toNat_hiByte, toNat_loByte]; omega

theorem sext16_eq_toInt (v : Half) : sext16 v = v.toInt := by
  have hv := v.isLt
  have hm : v.getLsbD 15 = decide (2 ^ 15 ≤ v.toNat) := by
    rw [show v.getLsbD 15 = v.msb by simp [BitVec.msb_eq_getLsbD_last], BitVec.msb_eq_decide]
  simp only [sext16, zext, BitVec.toInt_eq_toNat_cond, hm, decide_eq_true_eq]
  split <;> split <;> omega

theorem magnitude_eq (v : Half) : magnitude v = ((v.toNat % 2 ^ 15 : Nat) : Int) := by
  simp [magnitude, BitVec.extractLsb'_toNat]

theorem headerByte_dir : ∀ (dir : Bool) (a : Addr), (headerByte dir a).getLsbD 7 = dir := by decide

theorem headerByte_addr : ∀ (dir : Bool) (a : Addr), (headerByte dir a).extractLsb' 0 7 = a := by decide

theorem readable_iff (a : Addr) : readable a = true ↔ a.toNat ≤ 0x3B ∨ 0x40 ≤ a.toNat ∧ a.toNat ≤ 0x6F := by
  simp [readable, inConfigClass, inMeasureClass]

theorem writable_iff (a : Addr) : writable a = true ↔ a.toNat ≤ 0x3B := by
  simp [writable, inConfigClass]

/-- MEAS_MAP yields only addresses in 0x40 to 0x4F (R108). -/
theorem measAddr_range (m : MeasMap) (k : Quantity) : 0x40 ≤ (measAddr m k).toNat ∧ (measAddr m k).toNat ≤ 0x4F := by
  cases m <;> cases k <;> decide

theorem measAddr_readable (m : MeasMap) (k : Quantity) : readable (measAddr m k) = true := by
  rw [readable_iff]; have := measAddr_range m k; omega

end Sys2Proof.Machine
end

