-- ==== Sys2Proof/Laws/State.lean ====
section
/-! SUPPORT. For each update of the state, what each field is after it: true by definition, so that no proof unfolds a
record update. -/

namespace Sys2Proof.Machine

section
variable (s : State)

/-! ### emit -/

@[simp] theorem emit_st (o : Op) : (emit o s).st = s.st := rfl
@[simp] theorem emit_cmd (o : Op) : (emit o s).cmd = s.cmd := rfl
@[simp] theorem emit_sel (o : Op) : (emit o s).sel = s.sel := rfl
@[simp] theorem emit_mpc (o : Op) : (emit o s).mpc = s.mpc := rfl
@[simp] theorem emit_fidx (o : Op) : (emit o s).fidx = s.fidx := rfl
@[simp] theorem emit_hb (o : Op) : (emit o s).hb = s.hb := rfl
@[simp] theorem emit_lb (o : Op) : (emit o s).lb = s.lb := rfl
@[simp] theorem emit_sum8 (o : Op) : (emit o s).sum8 = s.sum8 := rfl
@[simp] theorem emit_xor8 (o : Op) : (emit o s).xor8 = s.xor8 := rfl
@[simp] theorem emit_rdata (o : Op) : (emit o s).rdata = s.rdata := rfl
@[simp] theorem emit_rdataValid (o : Op) : (emit o s).rdataValid = s.rdataValid := rfl
@[simp] theorem emit_csum (o : Op) : (emit o s).csum = s.csum := rfl
@[simp] theorem emit_csumValid (o : Op) : (emit o s).csumValid = s.csumValid := rfl
@[simp] theorem emit_convM (o : Op) : (emit o s).convM = s.convM := rfl
@[simp] theorem emit_convD (o : Op) : (emit o s).convD = s.convD := rfl
@[simp] theorem emit_convQ (o : Op) : (emit o s).convQ = s.convQ := rfl
@[simp] theorem emit_convValid (o : Op) : (emit o s).convValid = s.convValid := rfl
@[simp] theorem emit_code (o : Op) : (emit o s).code = s.code := rfl
@[simp] theorem emit_done (o : Op) : (emit o s).done = s.done := rfl
@[simp] theorem emit_trace (o : Op) : (emit o s).trace = s.trace ++ [o] := rfl
@[simp] theorem emit_cfg (o : Op) : (emit o s).cfg = s.cfg := rfl
@[simp] theorem emit_port (o : Op) : (emit o s).port = s.port := rfl
@[simp] theorem emit_replies (o : Op) : (emit o s).replies = s.replies := rfl
@[simp] theorem emit_resetIn (o : Op) : (emit o s).resetIn = s.resetIn := rfl
@[simp] theorem emit_phase (o : Op) : (emit o s).phase = s.phase := rfl
@[simp] theorem emit_wire (o : Op) : (emit o s).wire = s.wire := rfl
@[simp] theorem emit_history (o : Op) : (emit o s).history = s.history := rfl

/-! ### selAssert -/

@[simp] theorem selAssert_st : (selAssert s).st = s.st := rfl
@[simp] theorem selAssert_cmd : (selAssert s).cmd = s.cmd := rfl
@[simp] theorem selAssert_sel : (selAssert s).sel = true := rfl
@[simp] theorem selAssert_mpc : (selAssert s).mpc = s.mpc := rfl
@[simp] theorem selAssert_fidx : (selAssert s).fidx = s.fidx := rfl
@[simp] theorem selAssert_hb : (selAssert s).hb = s.hb := rfl
@[simp] theorem selAssert_lb : (selAssert s).lb = s.lb := rfl
@[simp] theorem selAssert_sum8 : (selAssert s).sum8 = s.sum8 := rfl
@[simp] theorem selAssert_xor8 : (selAssert s).xor8 = s.xor8 := rfl
@[simp] theorem selAssert_rdata : (selAssert s).rdata = s.rdata := rfl
@[simp] theorem selAssert_rdataValid : (selAssert s).rdataValid = s.rdataValid := rfl
@[simp] theorem selAssert_csum : (selAssert s).csum = s.csum := rfl
@[simp] theorem selAssert_csumValid : (selAssert s).csumValid = s.csumValid := rfl
@[simp] theorem selAssert_convM : (selAssert s).convM = s.convM := rfl
@[simp] theorem selAssert_convD : (selAssert s).convD = s.convD := rfl
@[simp] theorem selAssert_convQ : (selAssert s).convQ = s.convQ := rfl
@[simp] theorem selAssert_convValid : (selAssert s).convValid = s.convValid := rfl
@[simp] theorem selAssert_code : (selAssert s).code = s.code := rfl
@[simp] theorem selAssert_done : (selAssert s).done = s.done := rfl
@[simp] theorem selAssert_trace : (selAssert s).trace = s.trace ++ [.selAssert] := rfl
@[simp] theorem selAssert_cfg : (selAssert s).cfg = s.cfg := rfl
@[simp] theorem selAssert_port : (selAssert s).port = s.port := rfl
@[simp] theorem selAssert_replies : (selAssert s).replies = s.replies := rfl
@[simp] theorem selAssert_resetIn : (selAssert s).resetIn = s.resetIn := rfl
@[simp] theorem selAssert_phase : (selAssert s).phase = s.phase := rfl
@[simp] theorem selAssert_wire : (selAssert s).wire = s.wire := rfl
@[simp] theorem selAssert_history : (selAssert s).history = s.history := rfl

/-! ### selDeassert -/

@[simp] theorem selDeassert_st : (selDeassert s).st = s.st := rfl
@[simp] theorem selDeassert_cmd : (selDeassert s).cmd = s.cmd := rfl
@[simp] theorem selDeassert_sel : (selDeassert s).sel = false := rfl
@[simp] theorem selDeassert_mpc : (selDeassert s).mpc = s.mpc := rfl
@[simp] theorem selDeassert_fidx : (selDeassert s).fidx = s.fidx := rfl
@[simp] theorem selDeassert_hb : (selDeassert s).hb = s.hb := rfl
@[simp] theorem selDeassert_lb : (selDeassert s).lb = s.lb := rfl
@[simp] theorem selDeassert_sum8 : (selDeassert s).sum8 = s.sum8 := rfl
@[simp] theorem selDeassert_xor8 : (selDeassert s).xor8 = s.xor8 := rfl
@[simp] theorem selDeassert_rdata : (selDeassert s).rdata = s.rdata := rfl
@[simp] theorem selDeassert_rdataValid : (selDeassert s).rdataValid = s.rdataValid := rfl
@[simp] theorem selDeassert_csum : (selDeassert s).csum = s.csum := rfl
@[simp] theorem selDeassert_csumValid : (selDeassert s).csumValid = s.csumValid := rfl
@[simp] theorem selDeassert_convM : (selDeassert s).convM = s.convM := rfl
@[simp] theorem selDeassert_convD : (selDeassert s).convD = s.convD := rfl
@[simp] theorem selDeassert_convQ : (selDeassert s).convQ = s.convQ := rfl
@[simp] theorem selDeassert_convValid : (selDeassert s).convValid = s.convValid := rfl
@[simp] theorem selDeassert_code : (selDeassert s).code = s.code := rfl
@[simp] theorem selDeassert_done : (selDeassert s).done = s.done := rfl
@[simp] theorem selDeassert_trace : (selDeassert s).trace = s.trace ++ [.selDeassert] := rfl
@[simp] theorem selDeassert_cfg : (selDeassert s).cfg = s.cfg := rfl
@[simp] theorem selDeassert_port : (selDeassert s).port = s.port := rfl
@[simp] theorem selDeassert_replies : (selDeassert s).replies = s.replies := rfl
@[simp] theorem selDeassert_resetIn : (selDeassert s).resetIn = s.resetIn := rfl
@[simp] theorem selDeassert_phase : (selDeassert s).phase = s.phase := rfl
@[simp] theorem selDeassert_wire : (selDeassert s).wire = s.wire := rfl
@[simp] theorem selDeassert_history : (selDeassert s).history = s.history := rfl

/-! ### delayUs -/

@[simp] theorem delayUs_st (n : Nat) : (delayUs n s).st = s.st := rfl
@[simp] theorem delayUs_cmd (n : Nat) : (delayUs n s).cmd = s.cmd := rfl
@[simp] theorem delayUs_sel (n : Nat) : (delayUs n s).sel = s.sel := rfl
@[simp] theorem delayUs_mpc (n : Nat) : (delayUs n s).mpc = s.mpc := rfl
@[simp] theorem delayUs_fidx (n : Nat) : (delayUs n s).fidx = s.fidx := rfl
@[simp] theorem delayUs_hb (n : Nat) : (delayUs n s).hb = s.hb := rfl
@[simp] theorem delayUs_lb (n : Nat) : (delayUs n s).lb = s.lb := rfl
@[simp] theorem delayUs_sum8 (n : Nat) : (delayUs n s).sum8 = s.sum8 := rfl
@[simp] theorem delayUs_xor8 (n : Nat) : (delayUs n s).xor8 = s.xor8 := rfl
@[simp] theorem delayUs_rdata (n : Nat) : (delayUs n s).rdata = s.rdata := rfl
@[simp] theorem delayUs_rdataValid (n : Nat) : (delayUs n s).rdataValid = s.rdataValid := rfl
@[simp] theorem delayUs_csum (n : Nat) : (delayUs n s).csum = s.csum := rfl
@[simp] theorem delayUs_csumValid (n : Nat) : (delayUs n s).csumValid = s.csumValid := rfl
@[simp] theorem delayUs_convM (n : Nat) : (delayUs n s).convM = s.convM := rfl
@[simp] theorem delayUs_convD (n : Nat) : (delayUs n s).convD = s.convD := rfl
@[simp] theorem delayUs_convQ (n : Nat) : (delayUs n s).convQ = s.convQ := rfl
@[simp] theorem delayUs_convValid (n : Nat) : (delayUs n s).convValid = s.convValid := rfl
@[simp] theorem delayUs_code (n : Nat) : (delayUs n s).code = s.code := rfl
@[simp] theorem delayUs_done (n : Nat) : (delayUs n s).done = s.done := rfl
@[simp] theorem delayUs_trace (n : Nat) : (delayUs n s).trace = s.trace ++ [.delayUs n] := rfl
@[simp] theorem delayUs_cfg (n : Nat) : (delayUs n s).cfg = s.cfg := rfl
@[simp] theorem delayUs_port (n : Nat) : (delayUs n s).port = s.port := rfl
@[simp] theorem delayUs_replies (n : Nat) : (delayUs n s).replies = s.replies := rfl
@[simp] theorem delayUs_resetIn (n : Nat) : (delayUs n s).resetIn = s.resetIn := rfl
@[simp] theorem delayUs_phase (n : Nat) : (delayUs n s).phase = s.phase := rfl
@[simp] theorem delayUs_wire (n : Nat) : (delayUs n s).wire = s.wire := rfl
@[simp] theorem delayUs_history (n : Nat) : (delayUs n s).history = s.history := rfl

/-! ### setMpc -/

@[simp] theorem setMpc_st (k : Fin 10) : (setMpc k s).st = s.st := rfl
@[simp] theorem setMpc_cmd (k : Fin 10) : (setMpc k s).cmd = s.cmd := rfl
@[simp] theorem setMpc_sel (k : Fin 10) : (setMpc k s).sel = s.sel := rfl
@[simp] theorem setMpc_mpc (k : Fin 10) : (setMpc k s).mpc = k := rfl
@[simp] theorem setMpc_fidx (k : Fin 10) : (setMpc k s).fidx = s.fidx := rfl
@[simp] theorem setMpc_hb (k : Fin 10) : (setMpc k s).hb = s.hb := rfl
@[simp] theorem setMpc_lb (k : Fin 10) : (setMpc k s).lb = s.lb := rfl
@[simp] theorem setMpc_sum8 (k : Fin 10) : (setMpc k s).sum8 = s.sum8 := rfl
@[simp] theorem setMpc_xor8 (k : Fin 10) : (setMpc k s).xor8 = s.xor8 := rfl
@[simp] theorem setMpc_rdata (k : Fin 10) : (setMpc k s).rdata = s.rdata := rfl
@[simp] theorem setMpc_rdataValid (k : Fin 10) : (setMpc k s).rdataValid = s.rdataValid := rfl
@[simp] theorem setMpc_csum (k : Fin 10) : (setMpc k s).csum = s.csum := rfl
@[simp] theorem setMpc_csumValid (k : Fin 10) : (setMpc k s).csumValid = s.csumValid := rfl
@[simp] theorem setMpc_convM (k : Fin 10) : (setMpc k s).convM = s.convM := rfl
@[simp] theorem setMpc_convD (k : Fin 10) : (setMpc k s).convD = s.convD := rfl
@[simp] theorem setMpc_convQ (k : Fin 10) : (setMpc k s).convQ = s.convQ := rfl
@[simp] theorem setMpc_convValid (k : Fin 10) : (setMpc k s).convValid = s.convValid := rfl
@[simp] theorem setMpc_code (k : Fin 10) : (setMpc k s).code = s.code := rfl
@[simp] theorem setMpc_done (k : Fin 10) : (setMpc k s).done = s.done := rfl
@[simp] theorem setMpc_trace (k : Fin 10) : (setMpc k s).trace = s.trace := rfl
@[simp] theorem setMpc_cfg (k : Fin 10) : (setMpc k s).cfg = s.cfg := rfl
@[simp] theorem setMpc_port (k : Fin 10) : (setMpc k s).port = s.port := rfl
@[simp] theorem setMpc_replies (k : Fin 10) : (setMpc k s).replies = s.replies := rfl
@[simp] theorem setMpc_resetIn (k : Fin 10) : (setMpc k s).resetIn = s.resetIn := rfl
@[simp] theorem setMpc_phase (k : Fin 10) : (setMpc k s).phase = s.phase := rfl
@[simp] theorem setMpc_wire (k : Fin 10) : (setMpc k s).wire = s.wire := rfl
@[simp] theorem setMpc_history (k : Fin 10) : (setMpc k s).history = s.history := rfl

/-! ### setPhase -/

@[simp] theorem setPhase_st (p : Phase) : (setPhase p s).st = s.st := rfl
@[simp] theorem setPhase_cmd (p : Phase) : (setPhase p s).cmd = s.cmd := rfl
@[simp] theorem setPhase_sel (p : Phase) : (setPhase p s).sel = s.sel := rfl
@[simp] theorem setPhase_mpc (p : Phase) : (setPhase p s).mpc = s.mpc := rfl
@[simp] theorem setPhase_fidx (p : Phase) : (setPhase p s).fidx = s.fidx := rfl
@[simp] theorem setPhase_hb (p : Phase) : (setPhase p s).hb = s.hb := rfl
@[simp] theorem setPhase_lb (p : Phase) : (setPhase p s).lb = s.lb := rfl
@[simp] theorem setPhase_sum8 (p : Phase) : (setPhase p s).sum8 = s.sum8 := rfl
@[simp] theorem setPhase_xor8 (p : Phase) : (setPhase p s).xor8 = s.xor8 := rfl
@[simp] theorem setPhase_rdata (p : Phase) : (setPhase p s).rdata = s.rdata := rfl
@[simp] theorem setPhase_rdataValid (p : Phase) : (setPhase p s).rdataValid = s.rdataValid := rfl
@[simp] theorem setPhase_csum (p : Phase) : (setPhase p s).csum = s.csum := rfl
@[simp] theorem setPhase_csumValid (p : Phase) : (setPhase p s).csumValid = s.csumValid := rfl
@[simp] theorem setPhase_convM (p : Phase) : (setPhase p s).convM = s.convM := rfl
@[simp] theorem setPhase_convD (p : Phase) : (setPhase p s).convD = s.convD := rfl
@[simp] theorem setPhase_convQ (p : Phase) : (setPhase p s).convQ = s.convQ := rfl
@[simp] theorem setPhase_convValid (p : Phase) : (setPhase p s).convValid = s.convValid := rfl
@[simp] theorem setPhase_code (p : Phase) : (setPhase p s).code = s.code := rfl
@[simp] theorem setPhase_done (p : Phase) : (setPhase p s).done = s.done := rfl
@[simp] theorem setPhase_trace (p : Phase) : (setPhase p s).trace = s.trace := rfl
@[simp] theorem setPhase_cfg (p : Phase) : (setPhase p s).cfg = s.cfg := rfl
@[simp] theorem setPhase_port (p : Phase) : (setPhase p s).port = s.port := rfl
@[simp] theorem setPhase_replies (p : Phase) : (setPhase p s).replies = s.replies := rfl
@[simp] theorem setPhase_resetIn (p : Phase) : (setPhase p s).resetIn = s.resetIn := rfl
@[simp] theorem setPhase_phase (p : Phase) : (setPhase p s).phase = p := rfl
@[simp] theorem setPhase_wire (p : Phase) : (setPhase p s).wire = s.wire := rfl
@[simp] theorem setPhase_history (p : Phase) : (setPhase p s).history = s.history := rfl

/-! ### startFrame -/

@[simp] theorem startFrame_st : (startFrame s).st = s.st := rfl
@[simp] theorem startFrame_cmd : (startFrame s).cmd = s.cmd := rfl
@[simp] theorem startFrame_sel : (startFrame s).sel = s.sel := rfl
@[simp] theorem startFrame_mpc : (startFrame s).mpc = 0 := rfl
@[simp] theorem startFrame_fidx : (startFrame s).fidx = s.fidx := rfl
@[simp] theorem startFrame_hb : (startFrame s).hb = s.hb := rfl
@[simp] theorem startFrame_lb : (startFrame s).lb = s.lb := rfl
@[simp] theorem startFrame_sum8 : (startFrame s).sum8 = s.sum8 := rfl
@[simp] theorem startFrame_xor8 : (startFrame s).xor8 = s.xor8 := rfl
@[simp] theorem startFrame_rdata : (startFrame s).rdata = s.rdata := rfl
@[simp] theorem startFrame_rdataValid : (startFrame s).rdataValid = s.rdataValid := rfl
@[simp] theorem startFrame_csum : (startFrame s).csum = s.csum := rfl
@[simp] theorem startFrame_csumValid : (startFrame s).csumValid = s.csumValid := rfl
@[simp] theorem startFrame_convM : (startFrame s).convM = s.convM := rfl
@[simp] theorem startFrame_convD : (startFrame s).convD = s.convD := rfl
@[simp] theorem startFrame_convQ : (startFrame s).convQ = s.convQ := rfl
@[simp] theorem startFrame_convValid : (startFrame s).convValid = s.convValid := rfl
@[simp] theorem startFrame_code : (startFrame s).code = s.code := rfl
@[simp] theorem startFrame_done : (startFrame s).done = s.done := rfl
@[simp] theorem startFrame_trace : (startFrame s).trace = s.trace := rfl
@[simp] theorem startFrame_cfg : (startFrame s).cfg = s.cfg := rfl
@[simp] theorem startFrame_port : (startFrame s).port = s.port := rfl
@[simp] theorem startFrame_replies : (startFrame s).replies = s.replies := rfl
@[simp] theorem startFrame_resetIn : (startFrame s).resetIn = s.resetIn := rfl
@[simp] theorem startFrame_phase : (startFrame s).phase = .frame := rfl
@[simp] theorem startFrame_wire : (startFrame s).wire = s.wire := rfl
@[simp] theorem startFrame_history : (startFrame s).history = s.history := rfl

/-! ### endFrame -/

@[simp] theorem endFrame_st (p : Phase) : (endFrame p s).st = s.st := rfl
@[simp] theorem endFrame_cmd (p : Phase) : (endFrame p s).cmd = s.cmd := rfl
@[simp] theorem endFrame_sel (p : Phase) : (endFrame p s).sel = s.sel := rfl
@[simp] theorem endFrame_mpc (p : Phase) : (endFrame p s).mpc = 0 := rfl
@[simp] theorem endFrame_fidx (p : Phase) : (endFrame p s).fidx = s.fidx := rfl
@[simp] theorem endFrame_hb (p : Phase) : (endFrame p s).hb = s.hb := rfl
@[simp] theorem endFrame_lb (p : Phase) : (endFrame p s).lb = s.lb := rfl
@[simp] theorem endFrame_sum8 (p : Phase) : (endFrame p s).sum8 = s.sum8 := rfl
@[simp] theorem endFrame_xor8 (p : Phase) : (endFrame p s).xor8 = s.xor8 := rfl
@[simp] theorem endFrame_rdata (p : Phase) : (endFrame p s).rdata = s.rdata := rfl
@[simp] theorem endFrame_rdataValid (p : Phase) : (endFrame p s).rdataValid = s.rdataValid := rfl
@[simp] theorem endFrame_csum (p : Phase) : (endFrame p s).csum = s.csum := rfl
@[simp] theorem endFrame_csumValid (p : Phase) : (endFrame p s).csumValid = s.csumValid := rfl
@[simp] theorem endFrame_convM (p : Phase) : (endFrame p s).convM = s.convM := rfl
@[simp] theorem endFrame_convD (p : Phase) : (endFrame p s).convD = s.convD := rfl
@[simp] theorem endFrame_convQ (p : Phase) : (endFrame p s).convQ = s.convQ := rfl
@[simp] theorem endFrame_convValid (p : Phase) : (endFrame p s).convValid = s.convValid := rfl
@[simp] theorem endFrame_code (p : Phase) : (endFrame p s).code = s.code := rfl
@[simp] theorem endFrame_done (p : Phase) : (endFrame p s).done = s.done := rfl
@[simp] theorem endFrame_trace (p : Phase) : (endFrame p s).trace = s.trace := rfl
@[simp] theorem endFrame_cfg (p : Phase) : (endFrame p s).cfg = s.cfg := rfl
@[simp] theorem endFrame_port (p : Phase) : (endFrame p s).port = s.port := rfl
@[simp] theorem endFrame_replies (p : Phase) : (endFrame p s).replies = s.replies := rfl
@[simp] theorem endFrame_resetIn (p : Phase) : (endFrame p s).resetIn = s.resetIn := rfl
@[simp] theorem endFrame_phase (p : Phase) : (endFrame p s).phase = p := rfl
@[simp] theorem endFrame_wire (p : Phase) : (endFrame p s).wire = s.wire := rfl
@[simp] theorem endFrame_history (p : Phase) : (endFrame p s).history = s.history := rfl

/-! ### keepHigh -/

@[simp] theorem keepHigh_st (b : Byte) : (keepHigh b s).st = s.st := rfl
@[simp] theorem keepHigh_cmd (b : Byte) : (keepHigh b s).cmd = s.cmd := rfl
@[simp] theorem keepHigh_sel (b : Byte) : (keepHigh b s).sel = s.sel := rfl
@[simp] theorem keepHigh_mpc (b : Byte) : (keepHigh b s).mpc = s.mpc := rfl
@[simp] theorem keepHigh_fidx (b : Byte) : (keepHigh b s).fidx = s.fidx := rfl
@[simp] theorem keepHigh_hb (b : Byte) : (keepHigh b s).hb = b := rfl
@[simp] theorem keepHigh_lb (b : Byte) : (keepHigh b s).lb = s.lb := rfl
@[simp] theorem keepHigh_sum8 (b : Byte) : (keepHigh b s).sum8 = s.sum8 := rfl
@[simp] theorem keepHigh_xor8 (b : Byte) : (keepHigh b s).xor8 = s.xor8 := rfl
@[simp] theorem keepHigh_rdata (b : Byte) : (keepHigh b s).rdata = s.rdata := rfl
@[simp] theorem keepHigh_rdataValid (b : Byte) : (keepHigh b s).rdataValid = s.rdataValid := rfl
@[simp] theorem keepHigh_csum (b : Byte) : (keepHigh b s).csum = s.csum := rfl
@[simp] theorem keepHigh_csumValid (b : Byte) : (keepHigh b s).csumValid = s.csumValid := rfl
@[simp] theorem keepHigh_convM (b : Byte) : (keepHigh b s).convM = s.convM := rfl
@[simp] theorem keepHigh_convD (b : Byte) : (keepHigh b s).convD = s.convD := rfl
@[simp] theorem keepHigh_convQ (b : Byte) : (keepHigh b s).convQ = s.convQ := rfl
@[simp] theorem keepHigh_convValid (b : Byte) : (keepHigh b s).convValid = s.convValid := rfl
@[simp] theorem keepHigh_code (b : Byte) : (keepHigh b s).code = s.code := rfl
@[simp] theorem keepHigh_done (b : Byte) : (keepHigh b s).done = s.done := rfl
@[simp] theorem keepHigh_trace (b : Byte) : (keepHigh b s).trace = s.trace := rfl
@[simp] theorem keepHigh_cfg (b : Byte) : (keepHigh b s).cfg = s.cfg := rfl
@[simp] theorem keepHigh_port (b : Byte) : (keepHigh b s).port = s.port := rfl
@[simp] theorem keepHigh_replies (b : Byte) : (keepHigh b s).replies = s.replies := rfl
@[simp] theorem keepHigh_resetIn (b : Byte) : (keepHigh b s).resetIn = s.resetIn := rfl
@[simp] theorem keepHigh_phase (b : Byte) : (keepHigh b s).phase = s.phase := rfl
@[simp] theorem keepHigh_wire (b : Byte) : (keepHigh b s).wire = s.wire := rfl
@[simp] theorem keepHigh_history (b : Byte) : (keepHigh b s).history = s.history := rfl

/-! ### keepLow -/

@[simp] theorem keepLow_st (b : Byte) : (keepLow b s).st = s.st := rfl
@[simp] theorem keepLow_cmd (b : Byte) : (keepLow b s).cmd = s.cmd := rfl
@[simp] theorem keepLow_sel (b : Byte) : (keepLow b s).sel = s.sel := rfl
@[simp] theorem keepLow_mpc (b : Byte) : (keepLow b s).mpc = s.mpc := rfl
@[simp] theorem keepLow_fidx (b : Byte) : (keepLow b s).fidx = s.fidx := rfl
@[simp] theorem keepLow_hb (b : Byte) : (keepLow b s).hb = s.hb := rfl
@[simp] theorem keepLow_lb (b : Byte) : (keepLow b s).lb = b := rfl
@[simp] theorem keepLow_sum8 (b : Byte) : (keepLow b s).sum8 = s.sum8 := rfl
@[simp] theorem keepLow_xor8 (b : Byte) : (keepLow b s).xor8 = s.xor8 := rfl
@[simp] theorem keepLow_rdata (b : Byte) : (keepLow b s).rdata = s.rdata := rfl
@[simp] theorem keepLow_rdataValid (b : Byte) : (keepLow b s).rdataValid = s.rdataValid := rfl
@[simp] theorem keepLow_csum (b : Byte) : (keepLow b s).csum = s.csum := rfl
@[simp] theorem keepLow_csumValid (b : Byte) : (keepLow b s).csumValid = s.csumValid := rfl
@[simp] theorem keepLow_convM (b : Byte) : (keepLow b s).convM = s.convM := rfl
@[simp] theorem keepLow_convD (b : Byte) : (keepLow b s).convD = s.convD := rfl
@[simp] theorem keepLow_convQ (b : Byte) : (keepLow b s).convQ = s.convQ := rfl
@[simp] theorem keepLow_convValid (b : Byte) : (keepLow b s).convValid = s.convValid := rfl
@[simp] theorem keepLow_code (b : Byte) : (keepLow b s).code = s.code := rfl
@[simp] theorem keepLow_done (b : Byte) : (keepLow b s).done = s.done := rfl
@[simp] theorem keepLow_trace (b : Byte) : (keepLow b s).trace = s.trace := rfl
@[simp] theorem keepLow_cfg (b : Byte) : (keepLow b s).cfg = s.cfg := rfl
@[simp] theorem keepLow_port (b : Byte) : (keepLow b s).port = s.port := rfl
@[simp] theorem keepLow_replies (b : Byte) : (keepLow b s).replies = s.replies := rfl
@[simp] theorem keepLow_resetIn (b : Byte) : (keepLow b s).resetIn = s.resetIn := rfl
@[simp] theorem keepLow_phase (b : Byte) : (keepLow b s).phase = s.phase := rfl
@[simp] theorem keepLow_wire (b : Byte) : (keepLow b s).wire = s.wire := rfl
@[simp] theorem keepLow_history (b : Byte) : (keepLow b s).history = s.history := rfl

/-! ### abortStep -/

@[simp] theorem abortStep_st : (abortStep s).st = s.st := rfl
@[simp] theorem abortStep_cmd : (abortStep s).cmd = s.cmd := rfl
@[simp] theorem abortStep_sel : (abortStep s).sel = false := rfl
@[simp] theorem abortStep_mpc : (abortStep s).mpc = 0 := rfl
@[simp] theorem abortStep_fidx : (abortStep s).fidx = s.fidx := rfl
@[simp] theorem abortStep_hb : (abortStep s).hb = s.hb := rfl
@[simp] theorem abortStep_lb : (abortStep s).lb = s.lb := rfl
@[simp] theorem abortStep_sum8 : (abortStep s).sum8 = s.sum8 := rfl
@[simp] theorem abortStep_xor8 : (abortStep s).xor8 = s.xor8 := rfl
@[simp] theorem abortStep_rdata : (abortStep s).rdata = s.rdata := rfl
@[simp] theorem abortStep_rdataValid : (abortStep s).rdataValid = s.rdataValid := rfl
@[simp] theorem abortStep_csum : (abortStep s).csum = s.csum := rfl
@[simp] theorem abortStep_csumValid : (abortStep s).csumValid = s.csumValid := rfl
@[simp] theorem abortStep_convM : (abortStep s).convM = s.convM := rfl
@[simp] theorem abortStep_convD : (abortStep s).convD = s.convD := rfl
@[simp] theorem abortStep_convQ : (abortStep s).convQ = s.convQ := rfl
@[simp] theorem abortStep_convValid : (abortStep s).convValid = s.convValid := rfl
@[simp] theorem abortStep_code : (abortStep s).code = s.code := rfl
@[simp] theorem abortStep_done : (abortStep s).done = s.done := rfl
@[simp] theorem abortStep_trace : (abortStep s).trace = s.trace ++ [.selDeassert] := rfl
@[simp] theorem abortStep_cfg : (abortStep s).cfg = s.cfg := rfl
@[simp] theorem abortStep_port : (abortStep s).port = s.port := rfl
@[simp] theorem abortStep_replies : (abortStep s).replies = s.replies := rfl
@[simp] theorem abortStep_resetIn : (abortStep s).resetIn = s.resetIn := rfl
@[simp] theorem abortStep_phase : (abortStep s).phase = .finish .busError := rfl
@[simp] theorem abortStep_wire : (abortStep s).wire = s.wire := rfl
@[simp] theorem abortStep_history : (abortStep s).history = s.history := rfl

/-! ### raise -/

@[simp] theorem raise_st (c : Code) : (raise c s).st = s.st := rfl
@[simp] theorem raise_cmd (c : Code) : (raise c s).cmd = s.cmd := rfl
@[simp] theorem raise_sel (c : Code) : (raise c s).sel = s.sel := rfl
@[simp] theorem raise_mpc (c : Code) : (raise c s).mpc = s.mpc := rfl
@[simp] theorem raise_fidx (c : Code) : (raise c s).fidx = s.fidx := rfl
@[simp] theorem raise_hb (c : Code) : (raise c s).hb = s.hb := rfl
@[simp] theorem raise_lb (c : Code) : (raise c s).lb = s.lb := rfl
@[simp] theorem raise_sum8 (c : Code) : (raise c s).sum8 = s.sum8 := rfl
@[simp] theorem raise_xor8 (c : Code) : (raise c s).xor8 = s.xor8 := rfl
@[simp] theorem raise_rdata (c : Code) : (raise c s).rdata = s.rdata := rfl
@[simp] theorem raise_rdataValid (c : Code) : (raise c s).rdataValid = s.rdataValid := rfl
@[simp] theorem raise_csum (c : Code) : (raise c s).csum = s.csum := rfl
@[simp] theorem raise_csumValid (c : Code) : (raise c s).csumValid = s.csumValid := rfl
@[simp] theorem raise_convM (c : Code) : (raise c s).convM = s.convM := rfl
@[simp] theorem raise_convD (c : Code) : (raise c s).convD = s.convD := rfl
@[simp] theorem raise_convQ (c : Code) : (raise c s).convQ = s.convQ := rfl
@[simp] theorem raise_convValid (c : Code) : (raise c s).convValid = s.convValid := rfl
@[simp] theorem raise_code (c : Code) : (raise c s).code = s.code := rfl
@[simp] theorem raise_done (c : Code) : (raise c s).done = s.done := rfl
@[simp] theorem raise_trace (c : Code) : (raise c s).trace = s.trace := rfl
@[simp] theorem raise_cfg (c : Code) : (raise c s).cfg = s.cfg := rfl
@[simp] theorem raise_port (c : Code) : (raise c s).port = s.port := rfl
@[simp] theorem raise_replies (c : Code) : (raise c s).replies = s.replies := rfl
@[simp] theorem raise_resetIn (c : Code) : (raise c s).resetIn = s.resetIn := rfl
@[simp] theorem raise_phase (c : Code) : (raise c s).phase = .finish c := rfl
@[simp] theorem raise_wire (c : Code) : (raise c s).wire = s.wire := rfl
@[simp] theorem raise_history (c : Code) : (raise c s).history = s.history := rfl

/-! ### toIdle -/

@[simp] theorem toIdle_st : (toIdle s).st = .idle := rfl
@[simp] theorem toIdle_cmd : (toIdle s).cmd = s.cmd := rfl
@[simp] theorem toIdle_sel : (toIdle s).sel = s.sel := rfl
@[simp] theorem toIdle_mpc : (toIdle s).mpc = 0 := rfl
@[simp] theorem toIdle_fidx : (toIdle s).fidx = s.fidx := rfl
@[simp] theorem toIdle_hb : (toIdle s).hb = s.hb := rfl
@[simp] theorem toIdle_lb : (toIdle s).lb = s.lb := rfl
@[simp] theorem toIdle_sum8 : (toIdle s).sum8 = s.sum8 := rfl
@[simp] theorem toIdle_xor8 : (toIdle s).xor8 = s.xor8 := rfl
@[simp] theorem toIdle_rdata : (toIdle s).rdata = s.rdata := rfl
@[simp] theorem toIdle_rdataValid : (toIdle s).rdataValid = s.rdataValid := rfl
@[simp] theorem toIdle_csum : (toIdle s).csum = s.csum := rfl
@[simp] theorem toIdle_csumValid : (toIdle s).csumValid = s.csumValid := rfl
@[simp] theorem toIdle_convM : (toIdle s).convM = s.convM := rfl
@[simp] theorem toIdle_convD : (toIdle s).convD = s.convD := rfl
@[simp] theorem toIdle_convQ : (toIdle s).convQ = s.convQ := rfl
@[simp] theorem toIdle_convValid : (toIdle s).convValid = s.convValid := rfl
@[simp] theorem toIdle_code : (toIdle s).code = s.code := rfl
@[simp] theorem toIdle_done : (toIdle s).done = s.done := rfl
@[simp] theorem toIdle_trace : (toIdle s).trace = s.trace := rfl
@[simp] theorem toIdle_cfg : (toIdle s).cfg = s.cfg := rfl
@[simp] theorem toIdle_port : (toIdle s).port = s.port := rfl
@[simp] theorem toIdle_replies : (toIdle s).replies = s.replies := rfl
@[simp] theorem toIdle_resetIn : (toIdle s).resetIn = s.resetIn := rfl
@[simp] theorem toIdle_phase : (toIdle s).phase = .decode := rfl
@[simp] theorem toIdle_wire : (toIdle s).wire = none := rfl
@[simp] theorem toIdle_history : (toIdle s).history = s.history := rfl

/-! ### clearDone -/

@[simp] theorem clearDone_st : (clearDone s).st = s.st := rfl
@[simp] theorem clearDone_cmd : (clearDone s).cmd = s.cmd := rfl
@[simp] theorem clearDone_sel : (clearDone s).sel = s.sel := rfl
@[simp] theorem clearDone_mpc : (clearDone s).mpc = s.mpc := rfl
@[simp] theorem clearDone_fidx : (clearDone s).fidx = s.fidx := rfl
@[simp] theorem clearDone_hb : (clearDone s).hb = s.hb := rfl
@[simp] theorem clearDone_lb : (clearDone s).lb = s.lb := rfl
@[simp] theorem clearDone_sum8 : (clearDone s).sum8 = s.sum8 := rfl
@[simp] theorem clearDone_xor8 : (clearDone s).xor8 = s.xor8 := rfl
@[simp] theorem clearDone_rdata : (clearDone s).rdata = s.rdata := rfl
@[simp] theorem clearDone_rdataValid : (clearDone s).rdataValid = s.rdataValid := rfl
@[simp] theorem clearDone_csum : (clearDone s).csum = s.csum := rfl
@[simp] theorem clearDone_csumValid : (clearDone s).csumValid = s.csumValid := rfl
@[simp] theorem clearDone_convM : (clearDone s).convM = s.convM := rfl
@[simp] theorem clearDone_convD : (clearDone s).convD = s.convD := rfl
@[simp] theorem clearDone_convQ : (clearDone s).convQ = s.convQ := rfl
@[simp] theorem clearDone_convValid : (clearDone s).convValid = s.convValid := rfl
@[simp] theorem clearDone_code : (clearDone s).code = s.code := rfl
@[simp] theorem clearDone_done : (clearDone s).done = false := rfl
@[simp] theorem clearDone_trace : (clearDone s).trace = s.trace := rfl
@[simp] theorem clearDone_cfg : (clearDone s).cfg = s.cfg := rfl
@[simp] theorem clearDone_port : (clearDone s).port = s.port := rfl
@[simp] theorem clearDone_replies : (clearDone s).replies = s.replies := rfl
@[simp] theorem clearDone_resetIn : (clearDone s).resetIn = s.resetIn := rfl
@[simp] theorem clearDone_phase : (clearDone s).phase = s.phase := rfl
@[simp] theorem clearDone_wire : (clearDone s).wire = s.wire := rfl
@[simp] theorem clearDone_history : (clearDone s).history = s.history := rfl

/-! ### writeStatus -/

@[simp] theorem writeStatus_st (c : Code) : (writeStatus c s).st = s.st := rfl
@[simp] theorem writeStatus_cmd (c : Code) : (writeStatus c s).cmd = s.cmd := rfl
@[simp] theorem writeStatus_sel (c : Code) : (writeStatus c s).sel = s.sel := rfl
@[simp] theorem writeStatus_mpc (c : Code) : (writeStatus c s).mpc = s.mpc := rfl
@[simp] theorem writeStatus_fidx (c : Code) : (writeStatus c s).fidx = s.fidx := rfl
@[simp] theorem writeStatus_hb (c : Code) : (writeStatus c s).hb = s.hb := rfl
@[simp] theorem writeStatus_lb (c : Code) : (writeStatus c s).lb = s.lb := rfl
@[simp] theorem writeStatus_sum8 (c : Code) : (writeStatus c s).sum8 = s.sum8 := rfl
@[simp] theorem writeStatus_xor8 (c : Code) : (writeStatus c s).xor8 = s.xor8 := rfl
@[simp] theorem writeStatus_rdata (c : Code) : (writeStatus c s).rdata = s.rdata := rfl
@[simp] theorem writeStatus_rdataValid (c : Code) : (writeStatus c s).rdataValid = s.rdataValid := rfl
@[simp] theorem writeStatus_csum (c : Code) : (writeStatus c s).csum = s.csum := rfl
@[simp] theorem writeStatus_csumValid (c : Code) : (writeStatus c s).csumValid = s.csumValid := rfl
@[simp] theorem writeStatus_convM (c : Code) : (writeStatus c s).convM = s.convM := rfl
@[simp] theorem writeStatus_convD (c : Code) : (writeStatus c s).convD = s.convD := rfl
@[simp] theorem writeStatus_convQ (c : Code) : (writeStatus c s).convQ = s.convQ := rfl
@[simp] theorem writeStatus_convValid (c : Code) : (writeStatus c s).convValid = s.convValid := rfl
@[simp] theorem writeStatus_code (c : Code) : (writeStatus c s).code = c := rfl
@[simp] theorem writeStatus_done (c : Code) : (writeStatus c s).done = true := rfl
@[simp] theorem writeStatus_trace (c : Code) : (writeStatus c s).trace = s.trace := rfl
@[simp] theorem writeStatus_cfg (c : Code) : (writeStatus c s).cfg = s.cfg := rfl
@[simp] theorem writeStatus_port (c : Code) : (writeStatus c s).port = s.port := rfl
@[simp] theorem writeStatus_replies (c : Code) : (writeStatus c s).replies = s.replies := rfl
@[simp] theorem writeStatus_resetIn (c : Code) : (writeStatus c s).resetIn = s.resetIn := rfl
@[simp] theorem writeStatus_phase (c : Code) : (writeStatus c s).phase = s.phase := rfl
@[simp] theorem writeStatus_wire (c : Code) : (writeStatus c s).wire = s.wire := rfl
@[simp] theorem writeStatus_history (c : Code) : (writeStatus c s).history = s.history ++ [⟨s.cmd, c, csumReading s⟩] := rfl

/-! ### writeWireStatus -/

@[simp] theorem writeWireStatus_st (c : Code) : (writeWireStatus c s).st = s.st := rfl
@[simp] theorem writeWireStatus_cmd (c : Code) : (writeWireStatus c s).cmd = s.cmd := rfl
@[simp] theorem writeWireStatus_sel (c : Code) : (writeWireStatus c s).sel = s.sel := rfl
@[simp] theorem writeWireStatus_mpc (c : Code) : (writeWireStatus c s).mpc = s.mpc := rfl
@[simp] theorem writeWireStatus_fidx (c : Code) : (writeWireStatus c s).fidx = s.fidx := rfl
@[simp] theorem writeWireStatus_hb (c : Code) : (writeWireStatus c s).hb = s.hb := rfl
@[simp] theorem writeWireStatus_lb (c : Code) : (writeWireStatus c s).lb = s.lb := rfl
@[simp] theorem writeWireStatus_sum8 (c : Code) : (writeWireStatus c s).sum8 = s.sum8 := rfl
@[simp] theorem writeWireStatus_xor8 (c : Code) : (writeWireStatus c s).xor8 = s.xor8 := rfl
@[simp] theorem writeWireStatus_rdata (c : Code) : (writeWireStatus c s).rdata = s.rdata := rfl
@[simp] theorem writeWireStatus_rdataValid (c : Code) : (writeWireStatus c s).rdataValid = s.rdataValid := rfl
@[simp] theorem writeWireStatus_csum (c : Code) : (writeWireStatus c s).csum = s.csum := rfl
@[simp] theorem writeWireStatus_csumValid (c : Code) : (writeWireStatus c s).csumValid = s.csumValid := rfl
@[simp] theorem writeWireStatus_convM (c : Code) : (writeWireStatus c s).convM = s.convM := rfl
@[simp] theorem writeWireStatus_convD (c : Code) : (writeWireStatus c s).convD = s.convD := rfl
@[simp] theorem writeWireStatus_convQ (c : Code) : (writeWireStatus c s).convQ = s.convQ := rfl
@[simp] theorem writeWireStatus_convValid (c : Code) : (writeWireStatus c s).convValid = s.convValid := rfl
@[simp] theorem writeWireStatus_code (c : Code) : (writeWireStatus c s).code = c := rfl
@[simp] theorem writeWireStatus_done (c : Code) : (writeWireStatus c s).done = true := rfl
@[simp] theorem writeWireStatus_trace (c : Code) : (writeWireStatus c s).trace = s.trace := rfl
@[simp] theorem writeWireStatus_cfg (c : Code) : (writeWireStatus c s).cfg = s.cfg := rfl
@[simp] theorem writeWireStatus_port (c : Code) : (writeWireStatus c s).port = s.port := rfl
@[simp] theorem writeWireStatus_replies (c : Code) : (writeWireStatus c s).replies = s.replies := rfl
@[simp] theorem writeWireStatus_resetIn (c : Code) : (writeWireStatus c s).resetIn = s.resetIn := rfl
@[simp] theorem writeWireStatus_phase (c : Code) : (writeWireStatus c s).phase = s.phase := rfl
@[simp] theorem writeWireStatus_wire (c : Code) : (writeWireStatus c s).wire = s.wire := rfl
@[simp] theorem writeWireStatus_history (c : Code) : (writeWireStatus c s).history = s.history := rfl

/-! ### writeRData -/

@[simp] theorem writeRData_st (v : Half) : (writeRData v s).st = s.st := rfl
@[simp] theorem writeRData_cmd (v : Half) : (writeRData v s).cmd = s.cmd := rfl
@[simp] theorem writeRData_sel (v : Half) : (writeRData v s).sel = s.sel := rfl
@[simp] theorem writeRData_mpc (v : Half) : (writeRData v s).mpc = s.mpc := rfl
@[simp] theorem writeRData_fidx (v : Half) : (writeRData v s).fidx = s.fidx := rfl
@[simp] theorem writeRData_hb (v : Half) : (writeRData v s).hb = s.hb := rfl
@[simp] theorem writeRData_lb (v : Half) : (writeRData v s).lb = s.lb := rfl
@[simp] theorem writeRData_sum8 (v : Half) : (writeRData v s).sum8 = s.sum8 := rfl
@[simp] theorem writeRData_xor8 (v : Half) : (writeRData v s).xor8 = s.xor8 := rfl
@[simp] theorem writeRData_rdata (v : Half) : (writeRData v s).rdata = v := rfl
@[simp] theorem writeRData_rdataValid (v : Half) : (writeRData v s).rdataValid = true := rfl
@[simp] theorem writeRData_csum (v : Half) : (writeRData v s).csum = s.csum := rfl
@[simp] theorem writeRData_csumValid (v : Half) : (writeRData v s).csumValid = s.csumValid := rfl
@[simp] theorem writeRData_convM (v : Half) : (writeRData v s).convM = s.convM := rfl
@[simp] theorem writeRData_convD (v : Half) : (writeRData v s).convD = s.convD := rfl
@[simp] theorem writeRData_convQ (v : Half) : (writeRData v s).convQ = s.convQ := rfl
@[simp] theorem writeRData_convValid (v : Half) : (writeRData v s).convValid = s.convValid := rfl
@[simp] theorem writeRData_code (v : Half) : (writeRData v s).code = s.code := rfl
@[simp] theorem writeRData_done (v : Half) : (writeRData v s).done = s.done := rfl
@[simp] theorem writeRData_trace (v : Half) : (writeRData v s).trace = s.trace := rfl
@[simp] theorem writeRData_cfg (v : Half) : (writeRData v s).cfg = s.cfg := rfl
@[simp] theorem writeRData_port (v : Half) : (writeRData v s).port = s.port := rfl
@[simp] theorem writeRData_replies (v : Half) : (writeRData v s).replies = s.replies := rfl
@[simp] theorem writeRData_resetIn (v : Half) : (writeRData v s).resetIn = s.resetIn := rfl
@[simp] theorem writeRData_phase (v : Half) : (writeRData v s).phase = s.phase := rfl
@[simp] theorem writeRData_wire (v : Half) : (writeRData v s).wire = s.wire := rfl
@[simp] theorem writeRData_history (v : Half) : (writeRData v s).history = s.history := rfl

/-! ### writeCsum -/

@[simp] theorem writeCsum_st (v : Half) : (writeCsum v s).st = s.st := rfl
@[simp] theorem writeCsum_cmd (v : Half) : (writeCsum v s).cmd = s.cmd := rfl
@[simp] theorem writeCsum_sel (v : Half) : (writeCsum v s).sel = s.sel := rfl
@[simp] theorem writeCsum_mpc (v : Half) : (writeCsum v s).mpc = s.mpc := rfl
@[simp] theorem writeCsum_fidx (v : Half) : (writeCsum v s).fidx = s.fidx := rfl
@[simp] theorem writeCsum_hb (v : Half) : (writeCsum v s).hb = s.hb := rfl
@[simp] theorem writeCsum_lb (v : Half) : (writeCsum v s).lb = s.lb := rfl
@[simp] theorem writeCsum_sum8 (v : Half) : (writeCsum v s).sum8 = s.sum8 := rfl
@[simp] theorem writeCsum_xor8 (v : Half) : (writeCsum v s).xor8 = s.xor8 := rfl
@[simp] theorem writeCsum_rdata (v : Half) : (writeCsum v s).rdata = s.rdata := rfl
@[simp] theorem writeCsum_rdataValid (v : Half) : (writeCsum v s).rdataValid = s.rdataValid := rfl
@[simp] theorem writeCsum_csum (v : Half) : (writeCsum v s).csum = v := rfl
@[simp] theorem writeCsum_csumValid (v : Half) : (writeCsum v s).csumValid = true := rfl
@[simp] theorem writeCsum_convM (v : Half) : (writeCsum v s).convM = s.convM := rfl
@[simp] theorem writeCsum_convD (v : Half) : (writeCsum v s).convD = s.convD := rfl
@[simp] theorem writeCsum_convQ (v : Half) : (writeCsum v s).convQ = s.convQ := rfl
@[simp] theorem writeCsum_convValid (v : Half) : (writeCsum v s).convValid = s.convValid := rfl
@[simp] theorem writeCsum_code (v : Half) : (writeCsum v s).code = s.code := rfl
@[simp] theorem writeCsum_done (v : Half) : (writeCsum v s).done = s.done := rfl
@[simp] theorem writeCsum_trace (v : Half) : (writeCsum v s).trace = s.trace := rfl
@[simp] theorem writeCsum_cfg (v : Half) : (writeCsum v s).cfg = s.cfg := rfl
@[simp] theorem writeCsum_port (v : Half) : (writeCsum v s).port = s.port := rfl
@[simp] theorem writeCsum_replies (v : Half) : (writeCsum v s).replies = s.replies := rfl
@[simp] theorem writeCsum_resetIn (v : Half) : (writeCsum v s).resetIn = s.resetIn := rfl
@[simp] theorem writeCsum_phase (v : Half) : (writeCsum v s).phase = s.phase := rfl
@[simp] theorem writeCsum_wire (v : Half) : (writeCsum v s).wire = s.wire := rfl
@[simp] theorem writeCsum_history (v : Half) : (writeCsum v s).history = s.history := rfl

/-! ### writeConv -/

@[simp] theorem writeConv_st (k : Quantity) (p : Int × Nat) : (writeConv k p s).st = s.st := rfl
@[simp] theorem writeConv_cmd (k : Quantity) (p : Int × Nat) : (writeConv k p s).cmd = s.cmd := rfl
@[simp] theorem writeConv_sel (k : Quantity) (p : Int × Nat) : (writeConv k p s).sel = s.sel := rfl
@[simp] theorem writeConv_mpc (k : Quantity) (p : Int × Nat) : (writeConv k p s).mpc = s.mpc := rfl
@[simp] theorem writeConv_fidx (k : Quantity) (p : Int × Nat) : (writeConv k p s).fidx = s.fidx := rfl
@[simp] theorem writeConv_hb (k : Quantity) (p : Int × Nat) : (writeConv k p s).hb = s.hb := rfl
@[simp] theorem writeConv_lb (k : Quantity) (p : Int × Nat) : (writeConv k p s).lb = s.lb := rfl
@[simp] theorem writeConv_sum8 (k : Quantity) (p : Int × Nat) : (writeConv k p s).sum8 = s.sum8 := rfl
@[simp] theorem writeConv_xor8 (k : Quantity) (p : Int × Nat) : (writeConv k p s).xor8 = s.xor8 := rfl
@[simp] theorem writeConv_rdata (k : Quantity) (p : Int × Nat) : (writeConv k p s).rdata = s.rdata := rfl
@[simp] theorem writeConv_rdataValid (k : Quantity) (p : Int × Nat) : (writeConv k p s).rdataValid = s.rdataValid := rfl
@[simp] theorem writeConv_csum (k : Quantity) (p : Int × Nat) : (writeConv k p s).csum = s.csum := rfl
@[simp] theorem writeConv_csumValid (k : Quantity) (p : Int × Nat) : (writeConv k p s).csumValid = s.csumValid := rfl
@[simp] theorem writeConv_convM (k : Quantity) (p : Int × Nat) : (writeConv k p s).convM = p.1 := rfl
@[simp] theorem writeConv_convD (k : Quantity) (p : Int × Nat) : (writeConv k p s).convD = p.2 := rfl
@[simp] theorem writeConv_convQ (k : Quantity) (p : Int × Nat) : (writeConv k p s).convQ = quantityCode k := rfl
@[simp] theorem writeConv_convValid (k : Quantity) (p : Int × Nat) : (writeConv k p s).convValid = true := rfl
@[simp] theorem writeConv_code (k : Quantity) (p : Int × Nat) : (writeConv k p s).code = s.code := rfl
@[simp] theorem writeConv_done (k : Quantity) (p : Int × Nat) : (writeConv k p s).done = s.done := rfl
@[simp] theorem writeConv_trace (k : Quantity) (p : Int × Nat) : (writeConv k p s).trace = s.trace := rfl
@[simp] theorem writeConv_cfg (k : Quantity) (p : Int × Nat) : (writeConv k p s).cfg = s.cfg := rfl
@[simp] theorem writeConv_port (k : Quantity) (p : Int × Nat) : (writeConv k p s).port = s.port := rfl
@[simp] theorem writeConv_replies (k : Quantity) (p : Int × Nat) : (writeConv k p s).replies = s.replies := rfl
@[simp] theorem writeConv_resetIn (k : Quantity) (p : Int × Nat) : (writeConv k p s).resetIn = s.resetIn := rfl
@[simp] theorem writeConv_phase (k : Quantity) (p : Int × Nat) : (writeConv k p s).phase = s.phase := rfl
@[simp] theorem writeConv_wire (k : Quantity) (p : Int × Nat) : (writeConv k p s).wire = s.wire := rfl
@[simp] theorem writeConv_history (k : Quantity) (p : Int × Nat) : (writeConv k p s).history = s.history := rfl

/-! ### clearFold -/

@[simp] theorem clearFold_st : (clearFold s).st = s.st := rfl
@[simp] theorem clearFold_cmd : (clearFold s).cmd = s.cmd := rfl
@[simp] theorem clearFold_sel : (clearFold s).sel = s.sel := rfl
@[simp] theorem clearFold_mpc : (clearFold s).mpc = s.mpc := rfl
@[simp] theorem clearFold_fidx : (clearFold s).fidx = 0 := rfl
@[simp] theorem clearFold_hb : (clearFold s).hb = s.hb := rfl
@[simp] theorem clearFold_lb : (clearFold s).lb = s.lb := rfl
@[simp] theorem clearFold_sum8 : (clearFold s).sum8 = 0 := rfl
@[simp] theorem clearFold_xor8 : (clearFold s).xor8 = 0 := rfl
@[simp] theorem clearFold_rdata : (clearFold s).rdata = s.rdata := rfl
@[simp] theorem clearFold_rdataValid : (clearFold s).rdataValid = s.rdataValid := rfl
@[simp] theorem clearFold_csum : (clearFold s).csum = s.csum := rfl
@[simp] theorem clearFold_csumValid : (clearFold s).csumValid = s.csumValid := rfl
@[simp] theorem clearFold_convM : (clearFold s).convM = s.convM := rfl
@[simp] theorem clearFold_convD : (clearFold s).convD = s.convD := rfl
@[simp] theorem clearFold_convQ : (clearFold s).convQ = s.convQ := rfl
@[simp] theorem clearFold_convValid : (clearFold s).convValid = s.convValid := rfl
@[simp] theorem clearFold_code : (clearFold s).code = s.code := rfl
@[simp] theorem clearFold_done : (clearFold s).done = s.done := rfl
@[simp] theorem clearFold_trace : (clearFold s).trace = s.trace := rfl
@[simp] theorem clearFold_cfg : (clearFold s).cfg = s.cfg := rfl
@[simp] theorem clearFold_port : (clearFold s).port = s.port := rfl
@[simp] theorem clearFold_replies : (clearFold s).replies = s.replies := rfl
@[simp] theorem clearFold_resetIn : (clearFold s).resetIn = s.resetIn := rfl
@[simp] theorem clearFold_phase : (clearFold s).phase = s.phase := rfl
@[simp] theorem clearFold_wire : (clearFold s).wire = s.wire := rfl
@[simp] theorem clearFold_history : (clearFold s).history = s.history := rfl

/-! ### accumulate -/

@[simp] theorem accumulate_st : (accumulate s).st = s.st := rfl
@[simp] theorem accumulate_cmd : (accumulate s).cmd = s.cmd := rfl
@[simp] theorem accumulate_sel : (accumulate s).sel = s.sel := rfl
@[simp] theorem accumulate_mpc : (accumulate s).mpc = s.mpc := rfl
@[simp] theorem accumulate_fidx : (accumulate s).fidx = s.fidx + 1 := rfl
@[simp] theorem accumulate_hb : (accumulate s).hb = s.hb := rfl
@[simp] theorem accumulate_lb : (accumulate s).lb = s.lb := rfl
@[simp] theorem accumulate_sum8 : (accumulate s).sum8 = s.sum8 + s.hb + s.lb := rfl
@[simp] theorem accumulate_xor8 : (accumulate s).xor8 = s.xor8 ^^^ s.hb ^^^ s.lb := rfl
@[simp] theorem accumulate_rdata : (accumulate s).rdata = s.rdata := rfl
@[simp] theorem accumulate_rdataValid : (accumulate s).rdataValid = s.rdataValid := rfl
@[simp] theorem accumulate_csum : (accumulate s).csum = s.csum := rfl
@[simp] theorem accumulate_csumValid : (accumulate s).csumValid = s.csumValid := rfl
@[simp] theorem accumulate_convM : (accumulate s).convM = s.convM := rfl
@[simp] theorem accumulate_convD : (accumulate s).convD = s.convD := rfl
@[simp] theorem accumulate_convQ : (accumulate s).convQ = s.convQ := rfl
@[simp] theorem accumulate_convValid : (accumulate s).convValid = s.convValid := rfl
@[simp] theorem accumulate_code : (accumulate s).code = s.code := rfl
@[simp] theorem accumulate_done : (accumulate s).done = s.done := rfl
@[simp] theorem accumulate_trace : (accumulate s).trace = s.trace := rfl
@[simp] theorem accumulate_cfg : (accumulate s).cfg = s.cfg := rfl
@[simp] theorem accumulate_port : (accumulate s).port = s.port := rfl
@[simp] theorem accumulate_replies : (accumulate s).replies = s.replies := rfl
@[simp] theorem accumulate_resetIn : (accumulate s).resetIn = s.resetIn := rfl
@[simp] theorem accumulate_phase : (accumulate s).phase = s.phase := rfl
@[simp] theorem accumulate_wire : (accumulate s).wire = s.wire := rfl
@[simp] theorem accumulate_history : (accumulate s).history = s.history := rfl

/-! ### holdIndex -/

@[simp] theorem holdIndex_st : (holdIndex s).st = s.st := rfl
@[simp] theorem holdIndex_cmd : (holdIndex s).cmd = s.cmd := rfl
@[simp] theorem holdIndex_sel : (holdIndex s).sel = s.sel := rfl
@[simp] theorem holdIndex_mpc : (holdIndex s).mpc = s.mpc := rfl
@[simp] theorem holdIndex_fidx : (holdIndex s).fidx = if s.fidx.toNat ≤ fidxMax then s.fidx else BitVec.ofNat 4 fidxMax := rfl
@[simp] theorem holdIndex_hb : (holdIndex s).hb = s.hb := rfl
@[simp] theorem holdIndex_lb : (holdIndex s).lb = s.lb := rfl
@[simp] theorem holdIndex_sum8 : (holdIndex s).sum8 = s.sum8 := rfl
@[simp] theorem holdIndex_xor8 : (holdIndex s).xor8 = s.xor8 := rfl
@[simp] theorem holdIndex_rdata : (holdIndex s).rdata = s.rdata := rfl
@[simp] theorem holdIndex_rdataValid : (holdIndex s).rdataValid = s.rdataValid := rfl
@[simp] theorem holdIndex_csum : (holdIndex s).csum = s.csum := rfl
@[simp] theorem holdIndex_csumValid : (holdIndex s).csumValid = s.csumValid := rfl
@[simp] theorem holdIndex_convM : (holdIndex s).convM = s.convM := rfl
@[simp] theorem holdIndex_convD : (holdIndex s).convD = s.convD := rfl
@[simp] theorem holdIndex_convQ : (holdIndex s).convQ = s.convQ := rfl
@[simp] theorem holdIndex_convValid : (holdIndex s).convValid = s.convValid := rfl
@[simp] theorem holdIndex_code : (holdIndex s).code = s.code := rfl
@[simp] theorem holdIndex_done : (holdIndex s).done = s.done := rfl
@[simp] theorem holdIndex_trace : (holdIndex s).trace = s.trace := rfl
@[simp] theorem holdIndex_cfg : (holdIndex s).cfg = s.cfg := rfl
@[simp] theorem holdIndex_port : (holdIndex s).port = s.port := rfl
@[simp] theorem holdIndex_replies : (holdIndex s).replies = s.replies := rfl
@[simp] theorem holdIndex_resetIn : (holdIndex s).resetIn = s.resetIn := rfl
@[simp] theorem holdIndex_phase : (holdIndex s).phase = s.phase := rfl
@[simp] theorem holdIndex_wire : (holdIndex s).wire = s.wire := rfl
@[simp] theorem holdIndex_history : (holdIndex s).history = s.history := rfl

/-! ### countDown -/

@[simp] theorem countDown_st : (countDown s).st = s.st := rfl
@[simp] theorem countDown_cmd : (countDown s).cmd = s.cmd := rfl
@[simp] theorem countDown_sel : (countDown s).sel = s.sel := rfl
@[simp] theorem countDown_mpc : (countDown s).mpc = s.mpc := rfl
@[simp] theorem countDown_fidx : (countDown s).fidx = s.fidx := rfl
@[simp] theorem countDown_hb : (countDown s).hb = s.hb := rfl
@[simp] theorem countDown_lb : (countDown s).lb = s.lb := rfl
@[simp] theorem countDown_sum8 : (countDown s).sum8 = s.sum8 := rfl
@[simp] theorem countDown_xor8 : (countDown s).xor8 = s.xor8 := rfl
@[simp] theorem countDown_rdata : (countDown s).rdata = s.rdata := rfl
@[simp] theorem countDown_rdataValid : (countDown s).rdataValid = s.rdataValid := rfl
@[simp] theorem countDown_csum : (countDown s).csum = s.csum := rfl
@[simp] theorem countDown_csumValid : (countDown s).csumValid = s.csumValid := rfl
@[simp] theorem countDown_convM : (countDown s).convM = s.convM := rfl
@[simp] theorem countDown_convD : (countDown s).convD = s.convD := rfl
@[simp] theorem countDown_convQ : (countDown s).convQ = s.convQ := rfl
@[simp] theorem countDown_convValid : (countDown s).convValid = s.convValid := rfl
@[simp] theorem countDown_code : (countDown s).code = s.code := rfl
@[simp] theorem countDown_done : (countDown s).done = s.done := rfl
@[simp] theorem countDown_trace : (countDown s).trace = s.trace := rfl
@[simp] theorem countDown_cfg : (countDown s).cfg = s.cfg := rfl
@[simp] theorem countDown_port : (countDown s).port = s.port := rfl
@[simp] theorem countDown_replies : (countDown s).replies = s.replies := rfl
@[simp] theorem countDown_resetIn : (countDown s).resetIn = s.resetIn.map (· - 1) := rfl
@[simp] theorem countDown_phase : (countDown s).phase = s.phase := rfl
@[simp] theorem countDown_wire : (countDown s).wire = s.wire := rfl
@[simp] theorem countDown_history : (countDown s).history = s.history := rfl

/-! ### blockReset -/

@[simp] theorem blockReset_st : (blockReset s).st = State.reset.st := rfl
@[simp] theorem blockReset_cmd : (blockReset s).cmd = State.reset.cmd := rfl
@[simp] theorem blockReset_sel : (blockReset s).sel = State.reset.sel := rfl
@[simp] theorem blockReset_mpc : (blockReset s).mpc = State.reset.mpc := rfl
@[simp] theorem blockReset_fidx : (blockReset s).fidx = State.reset.fidx := rfl
@[simp] theorem blockReset_hb : (blockReset s).hb = State.reset.hb := rfl
@[simp] theorem blockReset_lb : (blockReset s).lb = State.reset.lb := rfl
@[simp] theorem blockReset_sum8 : (blockReset s).sum8 = State.reset.sum8 := rfl
@[simp] theorem blockReset_xor8 : (blockReset s).xor8 = State.reset.xor8 := rfl
@[simp] theorem blockReset_rdata : (blockReset s).rdata = State.reset.rdata := rfl
@[simp] theorem blockReset_rdataValid : (blockReset s).rdataValid = State.reset.rdataValid := rfl
@[simp] theorem blockReset_csum : (blockReset s).csum = State.reset.csum := rfl
@[simp] theorem blockReset_csumValid : (blockReset s).csumValid = State.reset.csumValid := rfl
@[simp] theorem blockReset_convM : (blockReset s).convM = State.reset.convM := rfl
@[simp] theorem blockReset_convD : (blockReset s).convD = State.reset.convD := rfl
@[simp] theorem blockReset_convQ : (blockReset s).convQ = State.reset.convQ := rfl
@[simp] theorem blockReset_convValid : (blockReset s).convValid = State.reset.convValid := rfl
@[simp] theorem blockReset_code : (blockReset s).code = State.reset.code := rfl
@[simp] theorem blockReset_done : (blockReset s).done = State.reset.done := rfl
@[simp] theorem blockReset_trace : (blockReset s).trace = State.reset.trace := rfl
@[simp] theorem blockReset_cfg : (blockReset s).cfg = s.cfg := rfl
@[simp] theorem blockReset_port : (blockReset s).port = s.port := rfl
@[simp] theorem blockReset_replies : (blockReset s).replies = s.replies := rfl
@[simp] theorem blockReset_resetIn : (blockReset s).resetIn = State.reset.resetIn := rfl
@[simp] theorem blockReset_phase : (blockReset s).phase = State.reset.phase := rfl
@[simp] theorem blockReset_wire : (blockReset s).wire = State.reset.wire := rfl
@[simp] theorem blockReset_history : (blockReset s).history = State.reset.history := rfl

/-! ### reset -/

@[simp] theorem reset_st : State.reset.st = .idle := rfl
@[simp] theorem reset_cmd : State.reset.cmd = 0 := rfl
@[simp] theorem reset_sel : State.reset.sel = false := rfl
@[simp] theorem reset_mpc : State.reset.mpc = 0 := rfl
@[simp] theorem reset_fidx : State.reset.fidx = 0 := rfl
@[simp] theorem reset_hb : State.reset.hb = 0 := rfl
@[simp] theorem reset_lb : State.reset.lb = 0 := rfl
@[simp] theorem reset_sum8 : State.reset.sum8 = 0 := rfl
@[simp] theorem reset_xor8 : State.reset.xor8 = 0 := rfl
@[simp] theorem reset_rdata : State.reset.rdata = 0 := rfl
@[simp] theorem reset_rdataValid : State.reset.rdataValid = false := rfl
@[simp] theorem reset_csum : State.reset.csum = 0 := rfl
@[simp] theorem reset_csumValid : State.reset.csumValid = false := rfl
@[simp] theorem reset_convM : State.reset.convM = 0 := rfl
@[simp] theorem reset_convD : State.reset.convD = 1 := rfl
@[simp] theorem reset_convQ : State.reset.convQ = 0 := rfl
@[simp] theorem reset_convValid : State.reset.convValid = false := rfl
@[simp] theorem reset_code : State.reset.code = .ok := rfl
@[simp] theorem reset_done : State.reset.done = false := rfl
@[simp] theorem reset_trace : State.reset.trace = [] := rfl
@[simp] theorem reset_cfg : State.reset.cfg = Config.default := rfl
@[simp] theorem reset_port : State.reset.port = [] := rfl
@[simp] theorem reset_replies : State.reset.replies = [] := rfl
@[simp] theorem reset_resetIn : State.reset.resetIn = none := rfl
@[simp] theorem reset_phase : State.reset.phase = .decode := rfl
@[simp] theorem reset_wire : State.reset.wire = none := rfl
@[simp] theorem reset_history : State.reset.history = [] := rfl

end

end Sys2Proof.Machine
end

