-- ==== Sys2Proof/Laws/Run.lean ====
section
/-! SUPPORT. What the shared operations do, once each: the byte exchange, the steps of a frame, a whole frame, and
running an instruction. -/

namespace Sys2Proof.Machine

/-! ### Counting towards the reset -/

theorem countDown_of_none (s : State) (h : s.resetIn = none) : countDown s = s := by
  cases s; simp_all [countDown]

/-! ### The byte exchange -/

/-- Everything a frame's byte exchange can do. -/
theorem frameXchg_cases {out : Byte} {keep : Byte → State → State} {next : Fin 10} {s t : State}
    (h : frameXchg out keep next s = some t) :
    ∃ r rest, s.replies = r :: rest ∧
      ((∃ b, r = .byte b ∧ t = setMpc next (keep b (emit (.xchg out r) { s with replies := rest }))) ∨
       (r = .busError ∧ t = setPhase .abort (emit (.xchg out r) { s with replies := rest }))) := by
  unfold frameXchg xchg at h
  cases hr : s.replies with
  | nil => simp [hr] at h
  | cons r rest =>
    refine ⟨r, rest, rfl, ?_⟩
    cases r with
    | byte b => simp [hr] at h; exact .inl ⟨b, rfl, h.symm⟩
    | busError => simp [hr] at h; exact .inr ⟨rfl, h.symm⟩

/-- A frame's byte exchange waits exactly while there is no reply. -/
theorem frameXchg_eq_none (out : Byte) (keep : Byte → State → State) (next : Fin 10) (s : State) :
    frameXchg out keep next s = none ↔ s.replies = [] := by
  unfold frameXchg xchg
  cases hr : s.replies with
  | nil => simp
  | cons r rest => cases r <;> simp

theorem frameXchg_byte (out : Byte) (keep : Byte → State → State) (next : Fin 10) (s : State) (b : Byte)
    (rest : List Reply) (h : s.replies = .byte b :: rest) :
    frameXchg out keep next s = some (setMpc next (keep b (emit (.xchg out (.byte b)) { s with replies := rest }))) := by
  simp [frameXchg, xchg, h]

theorem frameXchg_busError (out : Byte) (keep : Byte → State → State) (next : Fin 10) (s : State)
    (rest : List Reply) (h : s.replies = .busError :: rest) :
    frameXchg out keep next s = some (setPhase .abort (emit (.xchg out .busError) { s with replies := rest })) := by
  simp [frameXchg, xchg, h]

/-! ### Running -/

/-- What holds before, and is kept by the reset, the countdown and every step, holds after. -/
theorem drive_keeps (m : Micro) (P : State → Prop) (hr : ∀ s, P s → P (blockReset s)) (hc : ∀ s, P s → P (countDown s))
    (hs : ∀ s t, P s → busyStep m s = some t → P t) (n : Nat) (s : State) (h : P s) : P (drive m n s) := by
  induction n generalizing s with
  | zero => exact h
  | succ n ih =>
    unfold drive
    split
    · exact hr s h
    · split
      · exact hc s h
      · rename_i t ht
        split
        · exact hs _ _ (hc s h) ht
        · exact ih t (hs _ _ (hc s h) ht)

/-- With no reset coming: what every step keeps, running keeps. -/
theorem drive_keeps_of_none (m : Micro) (P : State → Prop)
    (hs : ∀ s t, P s → s.resetIn = none → busyStep m s = some t → P t ∧ t.resetIn = none)
    (n : Nat) (s : State) (h : P s) (hn : s.resetIn = none) : P (drive m n s) ∧ (drive m n s).resetIn = none := by
  induction n generalizing s with
  | zero => exact ⟨h, hn⟩
  | succ n ih =>
    unfold drive
    rw [countDown_of_none s hn]
    simp only [hn, reduceCtorEq, if_false]
    split
    · exact ⟨h, hn⟩
    · rename_i t ht
      split
      · exact hs _ _ h hn ht
      · exact ih t (hs _ _ h hn ht).1 (hs _ _ h hn ht).2

/-- One step of a run that goes on. -/
theorem drive_go (m : Micro) (n : Nat) (s t : State) (hn : s.resetIn = none) (h : busyStep m s = some t)
    (ht : t.st = .busy) : drive m (n + 1) s = drive m n t := by
  rw [drive, countDown_of_none s hn]
  simp [hn, h, ht]

/-- The last step of a run. -/
theorem drive_stop (m : Micro) (n : Nat) (s t : State) (hn : s.resetIn = none) (h : busyStep m s = some t)
    (ht : t.st = .idle) : drive m (n + 1) s = t := by
  rw [drive, countDown_of_none s hn]
  simp [hn, h, ht]

/-- A run that waits. -/
theorem drive_wait (m : Micro) (n : Nat) (s : State) (hn : s.resetIn = none) (h : busyStep m s = none) :
    drive m n s = s := by
  cases n with
  | zero => rfl
  | succ n => rw [drive, countDown_of_none s hn]; simp [hn, h]

/-! ### A whole frame -/

/-- A delay that is skipped when its parameter is 0 (R75). -/
def delayOps (n : Nat) : List Op := if 0 < n then [.delayUs n] else []

/-- The operations of a frame that received the bytes `x`, `y`, `z` (R75). -/
def frameTrace (c : Config) (f : Frame) (x y z : Byte) : List Op :=
  [.selAssert, .delayUs c.tPre, .xchg f.header (.byte x), .delayUs c.tHdr, .xchg f.b1 (.byte y)] ++
    delayOps c.tData ++ [.xchg f.b2 (.byte z), .delayUs c.tPost, .selDeassert] ++ delayOps c.tGap

/-- The state at the end of a frame that received the bytes `x`, `y`, `z`. -/
def afterFrame (m : Micro) (f : Frame) (x y z : Byte) (rest : List Reply) (s : State) : State :=
  { s with sel := false, mpc := 0, hb := y, lb := z, replies := rest, phase := m.afterFrame,
           trace := s.trace ++ frameTrace s.cfg f x y z }

/-- The step of a frame in progress. -/
theorem busyStep_frame (m : Micro) (f : Frame) (s : State) (hp : s.phase = .frame) (hf : m.send s = some f) :
    busyStep m s = frameStep f m.afterFrame s := by
  simp [busyStep, hp, hf]

section
variable (f : Frame) (p : Phase) (s : State)

theorem frameStep_0 (h : s.mpc = 0) : frameStep f p s = some (setMpc 1 (selAssert s)) := by simp [frameStep, h]
theorem frameStep_1 (h : s.mpc = 1) : frameStep f p s = some (setMpc 2 (delayUs s.cfg.tPre s)) := by simp [frameStep, h]
theorem frameStep_2 (h : s.mpc = 2) : frameStep f p s = frameXchg f.header discard 3 s := by simp [frameStep, h]
theorem frameStep_3 (h : s.mpc = 3) : frameStep f p s = some (setMpc 4 (delayUs s.cfg.tHdr s)) := by simp [frameStep, h]
theorem frameStep_4 (h : s.mpc = 4) :
    frameStep f p s = frameXchg f.b1 keepHigh (if 0 < s.cfg.tData then 5 else 6) s := by simp [frameStep, h]
theorem frameStep_5 (h : s.mpc = 5) :
    frameStep f p s = some (setMpc 6 (if 0 < s.cfg.tData then delayUs s.cfg.tData s else s)) := by simp [frameStep, h]
theorem frameStep_6 (h : s.mpc = 6) : frameStep f p s = frameXchg f.b2 keepLow 7 s := by simp [frameStep, h]
theorem frameStep_7 (h : s.mpc = 7) : frameStep f p s = some (setMpc 8 (delayUs s.cfg.tPost s)) := by simp [frameStep, h]
theorem frameStep_8 (h : s.mpc = 8) : frameStep f p s =
    some (if 0 < s.cfg.tGap then setMpc 9 (selDeassert s) else endFrame p (selDeassert s)) := by simp [frameStep, h]
theorem frameStep_9 (h : s.mpc = 9) :
    frameStep f p s = some (endFrame p (if 0 < s.cfg.tGap then delayUs s.cfg.tGap s else s)) := by simp [frameStep, h]

end

/-- The state just after the header's exchange. -/
def afterHeader (f : Frame) (x : Byte) (rest : List Reply) (s : State) : State :=
  { s with sel := true, mpc := 3, replies := rest,
           trace := s.trace ++ [.selAssert, .delayUs s.cfg.tPre, .xchg f.header (.byte x)] }

/-- The state just before the second data byte's exchange. -/
def beforeLast (f : Frame) (y : Byte) (rest : List Reply) (s : State) : State :=
  { s with mpc := 6, replies := rest, hb := y,
           trace := s.trace ++ [.delayUs s.cfg.tHdr, .xchg f.b1 (.byte y)] ++ delayOps s.cfg.tData }

/-- The end of a frame from its second data byte's exchange on. -/
def afterLast (p : Phase) (f : Frame) (z : Byte) (rest : List Reply) (s : State) : State :=
  { s with sel := false, mpc := 0, replies := rest, lb := z, phase := p,
           trace := s.trace ++ [.xchg f.b2 (.byte z), .delayUs s.cfg.tPost, .selDeassert] ++ delayOps s.cfg.tGap }

section
variable (m : Micro) (f : Frame) (s : State)
  (hsend : ∀ t : State, t.cfg = s.cfg → t.fidx = s.fidx → m.send t = some f)
  (hb : s.st = .busy) (hn : s.resetIn = none) (hp : s.phase = .frame)

include hsend in
/-- One step of a frame that goes on, from any point of it. -/
theorem drive_go_frame (n : Nat) (u t : State) (hc : u.cfg = s.cfg) (hi : u.fidx = s.fidx) (hu : u.resetIn = none)
    (hq : u.phase = .frame) (h : frameStep f m.afterFrame u = some t) (ht : t.st = .busy) :
    drive m (n + 1) u = drive m n t :=
  drive_go m n u t hu ((busyStep_frame m f u hq (hsend u hc hi)).trans h) ht

include hsend hb hn hp

/-- From the start of a frame to its header's exchange. -/
theorem drive_header (x : Byte) (rest : List Reply) (hm : s.mpc = 0) (hr : s.replies = .byte x :: rest) (n : Nat) :
    drive m (n + 3) s = drive m n (afterHeader f x rest s) := by
  have go := drive_go_frame m f s hsend
  rw [go (n + 2) s _ rfl rfl hn hp (frameStep_0 _ _ s hm) (by simp [hb]),
    go (n + 1) _ _ (by simp) (by simp) (by simp [hn]) (by simp [hp]) (frameStep_1 _ _ _ (by simp)) (by simp [hb]),
    go n _ _ (by simp) (by simp) (by simp [hn]) (by simp [hp])
      ((frameStep_2 _ _ _ (by simp)).trans (frameXchg_byte _ _ _ _ x rest (by simp [hr]))) (by simp [hb, discard])]
  simp [afterHeader, setMpc, selAssert, delayUs, emit, discard]

/-- From the header's exchange to the first data byte's, and the delay after it. -/
theorem drive_first (y : Byte) (rest : List Reply) (hm : s.mpc = 3) (hr : s.replies = .byte y :: rest) :
    ∃ k, k ≤ 3 ∧ ∀ n, drive m (n + k) s = drive m n (beforeLast f y rest s) := by
  have go := drive_go_frame m f s hsend
  by_cases hd : 0 < s.cfg.tData
  · refine ⟨3, by omega, fun n => ?_⟩
    rw [go (n + 2) s _ rfl rfl hn hp (frameStep_3 _ _ s hm) (by simp [hb]),
      go (n + 1) _ _ (by simp) (by simp) (by simp [hn]) (by simp [hp])
        ((frameStep_4 _ _ _ (by simp)).trans (frameXchg_byte _ _ _ _ y rest (by simp [hr]))) (by simp [hb]),
      go n _ _ (by simp) (by simp) (by simp [hn]) (by simp [hp]) (frameStep_5 _ _ _ (by simp [hd])) (by simp [hb, hd])]
    simp [beforeLast, setMpc, delayUs, emit, keepHigh, delayOps, hd]
  · refine ⟨2, by omega, fun n => ?_⟩
    rw [go (n + 1) s _ rfl rfl hn hp (frameStep_3 _ _ s hm) (by simp [hb]),
      go n _ _ (by simp) (by simp) (by simp [hn]) (by simp [hp])
        ((frameStep_4 _ _ _ (by simp)).trans (frameXchg_byte _ _ _ _ y rest (by simp [hr]))) (by simp [hb])]
    simp [beforeLast, setMpc, delayUs, emit, keepHigh, delayOps, hd]

/-- From the second data byte's exchange to the end of the frame. -/
theorem drive_last (z : Byte) (rest : List Reply) (hm : s.mpc = 6) (hr : s.replies = .byte z :: rest) :
    ∃ k, k ≤ 4 ∧ ∀ n, drive m (n + k) s = drive m n (afterLast m.afterFrame f z rest s) := by
  have go := drive_go_frame m f s hsend
  by_cases hg : 0 < s.cfg.tGap
  · refine ⟨4, by omega, fun n => ?_⟩
    rw [go (n + 3) s _ rfl rfl hn hp ((frameStep_6 _ _ s hm).trans (frameXchg_byte _ _ _ _ z rest hr)) (by simp [hb]),
      go (n + 2) _ _ (by simp) (by simp) (by simp [hn]) (by simp [hp]) (frameStep_7 _ _ _ (by simp)) (by simp [hb]),
      go (n + 1) _ _ (by simp) (by simp) (by simp [hn]) (by simp [hp]) (frameStep_8 _ _ _ (by simp)) (by simp [hb, hg]),
      go n _ _ (by simp [hg]) (by simp [hg]) (by simp [hn, hg]) (by simp [hp, hg]) (frameStep_9 _ _ _ (by simp [hg]))
        (by simp [hb, hg])]
    simp [afterLast, setMpc, setPhase, selDeassert, endFrame, delayUs, emit, keepLow, delayOps, hg]
  · refine ⟨3, by omega, fun n => ?_⟩
    rw [go (n + 2) s _ rfl rfl hn hp ((frameStep_6 _ _ s hm).trans (frameXchg_byte _ _ _ _ z rest hr)) (by simp [hb]),
      go (n + 1) _ _ (by simp) (by simp) (by simp [hn]) (by simp [hp]) (frameStep_7 _ _ _ (by simp)) (by simp [hb]),
      go n _ _ (by simp) (by simp) (by simp [hn]) (by simp [hp]) (frameStep_8 _ _ _ (by simp)) (by simp [hb, hg])]
    simp [afterLast, setMpc, setPhase, selDeassert, endFrame, delayUs, emit, keepLow, delayOps, hg]

/-- A frame with three bytes to receive runs to its end in at most ten steps. -/
theorem drive_frame (x y z : Byte) (rest : List Reply) (hm : s.mpc = 0)
    (hr : s.replies = .byte x :: .byte y :: .byte z :: rest) :
    ∃ k, k ≤ 10 ∧ ∀ n, drive m (n + k) s = drive m n (afterFrame m f x y z rest s) := by
  obtain ⟨k1, h1, e1⟩ := drive_first m f (afterHeader f x (.byte y :: .byte z :: rest) s) hsend hb hn hp y
    (.byte z :: rest) rfl rfl
  obtain ⟨k2, h2, e2⟩ := drive_last m f (beforeLast f y (.byte z :: rest) (afterHeader f x (.byte y :: .byte z :: rest) s))
    hsend hb hn hp z rest rfl rfl
  refine ⟨k2 + k1 + 3, by omega, fun n => ?_⟩
  rw [show n + (k2 + k1 + 3) = (n + k2 + k1) + 3 by omega, drive_header m f s hsend hb hn hp x _ hm hr, e1, e2]
  simp [afterFrame, afterLast, beforeLast, afterHeader, frameTrace]

/-- The state at the end of an abort (R76), the failing exchange having sent `out`. -/
def afterFailed (out : Byte) (rest : List Reply) (s : State) : State :=
  { s with sel := false, mpc := 0, replies := rest, phase := .finish .busError,
           trace := s.trace ++ [.xchg out .busError, .selDeassert] }

/-- A failing exchange and the abort after it. -/
theorem drive_failed (out : Byte) (keep : Byte → State → State) (next : Fin 10) (rest : List Reply)
    (h : frameStep f m.afterFrame s = frameXchg out keep next s) (hr : s.replies = .busError :: rest) (n : Nat) :
    drive m (n + 2) s = drive m n (afterFailed out rest s) := by
  rw [drive_go_frame m f s hsend (n + 1) s _ rfl rfl hn hp (h.trans (frameXchg_busError out keep next s rest hr))
      (by simp [hb]),
    drive_go m n _ (abortStep (setPhase .abort (emit (.xchg out .busError) { s with replies := rest }))) (by simp [hn])
      (by simp [busyStep]) (by simp [hb])]
  simp [afterFailed, abortStep, setPhase, setMpc, selDeassert, emit]

/-- The operations of a frame that received the bytes listed and then had an exchange fail (R75, R76). -/
def abortTrace (c : Config) (f : Frame) : List Byte → List Op
  | [] => [.selAssert, .delayUs c.tPre, .xchg f.header .busError, .selDeassert]
  | [x] => [.selAssert, .delayUs c.tPre, .xchg f.header (.byte x), .delayUs c.tHdr, .xchg f.b1 .busError, .selDeassert]
  | x :: y :: _ => [.selAssert, .delayUs c.tPre, .xchg f.header (.byte x), .delayUs c.tHdr, .xchg f.b1 (.byte y)] ++
      delayOps c.tData ++ [.xchg f.b2 .busError, .selDeassert]

/-- The state at the end of a frame that was aborted, the end step of its command being next. -/
def afterAbort (f : Frame) (got : List Byte) (rest : List Reply) (s : State) : State :=
  { s with sel := false, mpc := 0, hb := (got[1]?).getD s.hb, replies := rest, phase := .finish .busError,
           trace := s.trace ++ abortTrace s.cfg f got }

/-- A frame with an exchange that fails runs to the end of its abort in at most nine steps. -/
theorem drive_abort (got : List Byte) (rest : List Reply) (hm : s.mpc = 0) (hg : got.length ≤ 2)
    (hr : s.replies = got.map .byte ++ .busError :: rest) :
    ∃ k, k ≤ 9 ∧ ∀ n, drive m (n + k) s = drive m n (afterAbort f got rest s) := by
  have go := drive_go_frame m f s hsend
  match got, hg, hr with
  | [], _, hr =>
    refine ⟨4, by omega, fun n => ?_⟩
    rw [go (n + 3) s _ rfl rfl hn hp (frameStep_0 _ _ s hm) (by simp [hb]),
      go (n + 2) _ _ (by simp) (by simp) (by simp [hn]) (by simp [hp]) (frameStep_1 _ _ _ (by simp)) (by simp [hb]),
      drive_failed m f (setMpc 2 (delayUs (setMpc 1 (selAssert s)).cfg.tPre (setMpc 1 (selAssert s)))) hsend hb hn hp _ _ _ rest
        (frameStep_2 _ _ _ rfl) hr]
    simp [afterAbort, abortTrace, afterFailed, setMpc, selAssert, delayUs, emit]
  | [x], _, hr =>
    refine ⟨6, by omega, fun n => ?_⟩
    have hr' : s.replies = .byte x :: .busError :: rest := by simpa using hr
    rw [show n + 6 = (n + 3) + 3 by omega, drive_header m f s hsend hb hn hp x _ hm hr',
      drive_go_frame m f (afterHeader f x (.busError :: rest) s) hsend (n + 2) _ _ rfl rfl hn hp (frameStep_3 _ _ _ rfl)
        hb,
      drive_failed m f (setMpc 4 (delayUs (afterHeader f x (.busError :: rest) s).cfg.tHdr
        (afterHeader f x (.busError :: rest) s))) hsend hb hn hp _ _ _ rest
        (frameStep_4 _ _ _ rfl) rfl]
    simp [afterAbort, abortTrace, afterFailed, afterHeader, setMpc, delayUs, emit]
  | [x, y], _, hr =>
    have hr' : s.replies = .byte x :: .byte y :: .busError :: rest := by simpa using hr
    obtain ⟨k, hk, e⟩ := drive_first m f (afterHeader f x (.byte y :: .busError :: rest) s) hsend hb hn hp y
      (.busError :: rest) rfl rfl
    refine ⟨2 + k + 3, by omega, fun n => ?_⟩
    rw [show n + (2 + k + 3) = (n + 2 + k) + 3 by omega, drive_header m f s hsend hb hn hp x _ hm hr', e,
      drive_failed m f (beforeLast f y (.busError :: rest) (afterHeader f x (.byte y :: .busError :: rest) s))
        hsend hb hn hp _ _ _ rest (frameStep_6 _ _ _ rfl) rfl]
    simp [afterAbort, abortTrace, afterFailed, afterHeader, beforeLast]

end

/-! ### Ends -/

/-- The end step of a command (R36), as the run's last. -/
theorem drive_end (m : Micro) (n : Nat) (s : State) (c : Code) (hn : s.resetIn = none) (hp : s.phase = .finish c) :
    drive m (n + 1) s = endCommand c (if c = .ok then m.commit s else s) := by
  refine drive_stop m n s _ hn (by simp [busyStep, hp]) ?_
  unfold endCommand; split <;> rfl

/-- A run from IDLE, no reset coming: acceptance, and the steps after it. -/
theorem perform_idle (r : Request) (m : Micro) (s : State) (hi : s.st = .idle) (hn : s.resetIn = none) :
    perform r m s = drive m maxSteps (accept r s) := by
  simp [perform, hi, hn, countDown_of_none]

/-- A run taken up again, no reset coming. -/
theorem perform_busy (r : Request) (m : Micro) (s : State) (hi : s.st = .busy) : perform r m s = drive m maxSteps s := by
  simp [perform, hi]

/-! ### Everything a step can do -/

/-- Everything a step of a frame can do (R75, R76). -/
theorem frameStep_cases {f : Frame} {p : Phase} {s t : State} (h : frameStep f p s = some t) :
    (s.mpc = 0 ∧ t = setMpc 1 (selAssert s)) ∨
    (s.mpc = 1 ∧ t = setMpc 2 (delayUs s.cfg.tPre s)) ∨
    (s.mpc = 2 ∧ ∃ b rest, s.replies = .byte b :: rest ∧
      t = setMpc 3 (emit (.xchg f.header (.byte b)) { s with replies := rest })) ∨
    (s.mpc = 3 ∧ t = setMpc 4 (delayUs s.cfg.tHdr s)) ∨
    (s.mpc = 4 ∧ ∃ b rest, s.replies = .byte b :: rest ∧
      t = setMpc (if 0 < s.cfg.tData then 5 else 6) (keepHigh b (emit (.xchg f.b1 (.byte b)) { s with replies := rest }))) ∨
    (s.mpc = 5 ∧ t = setMpc 6 (if 0 < s.cfg.tData then delayUs s.cfg.tData s else s)) ∨
    (s.mpc = 6 ∧ ∃ b rest, s.replies = .byte b :: rest ∧
      t = setMpc 7 (keepLow b (emit (.xchg f.b2 (.byte b)) { s with replies := rest }))) ∨
    (s.mpc = 7 ∧ t = setMpc 8 (delayUs s.cfg.tPost s)) ∨
    (s.mpc = 8 ∧ 0 < s.cfg.tGap ∧ t = setMpc 9 (selDeassert s)) ∨
    (s.mpc = 8 ∧ s.cfg.tGap = 0 ∧ t = endFrame p (selDeassert s)) ∨
    (s.mpc = 9 ∧ t = endFrame p (if 0 < s.cfg.tGap then delayUs s.cfg.tGap s else s)) ∨
    (∃ out rest, ((s.mpc = 2 ∧ out = f.header) ∨ (s.mpc = 4 ∧ out = f.b1) ∨ (s.mpc = 6 ∧ out = f.b2)) ∧
      s.replies = .busError :: rest ∧ t = setPhase .abort (emit (.xchg out .busError) { s with replies := rest })) := by
  have hm : s.mpc = 0 ∨ s.mpc = 1 ∨ s.mpc = 2 ∨ s.mpc = 3 ∨ s.mpc = 4 ∨ s.mpc = 5 ∨ s.mpc = 6 ∨ s.mpc = 7 ∨
      s.mpc = 8 ∨ s.mpc = 9 := by
    generalize s.mpc = k; revert k; decide
  rcases hm with hm | hm | hm | hm | hm | hm | hm | hm | hm | hm
  · rw [frameStep_0 _ _ _ hm] at h; cases h; simp [hm]
  · rw [frameStep_1 _ _ _ hm] at h; cases h; simp [hm]
  · rw [frameStep_2 _ _ _ hm] at h
    obtain ⟨r, rest, hr, ⟨b, rfl, rfl⟩ | ⟨rfl, rfl⟩⟩ := frameXchg_cases h
    · exact .inr (.inr (.inl ⟨hm, b, rest, hr, rfl⟩))
    · iterate 11 apply Or.inr
      exact ⟨_, rest, .inl ⟨hm, rfl⟩, hr, rfl⟩
  · rw [frameStep_3 _ _ _ hm] at h; cases h; simp [hm]
  · rw [frameStep_4 _ _ _ hm] at h
    obtain ⟨r, rest, hr, ⟨b, rfl, rfl⟩ | ⟨rfl, rfl⟩⟩ := frameXchg_cases h
    · exact .inr (.inr (.inr (.inr (.inl ⟨hm, b, rest, hr, rfl⟩))))
    · iterate 11 apply Or.inr
      exact ⟨_, rest, .inr (.inl ⟨hm, rfl⟩), hr, rfl⟩
  · rw [frameStep_5 _ _ _ hm] at h; cases h; simp [hm]
  · rw [frameStep_6 _ _ _ hm] at h
    obtain ⟨r, rest, hr, ⟨b, rfl, rfl⟩ | ⟨rfl, rfl⟩⟩ := frameXchg_cases h
    · exact .inr (.inr (.inr (.inr (.inr (.inr (.inl ⟨hm, b, rest, hr, rfl⟩))))))
    · iterate 11 apply Or.inr
      exact ⟨_, rest, .inr (.inr ⟨hm, rfl⟩), hr, rfl⟩
  · rw [frameStep_7 _ _ _ hm] at h; cases h; simp [hm]
  · rw [frameStep_8 _ _ _ hm] at h
    by_cases hg : 0 < s.cfg.tGap
    · simp [hg] at h; subst h; simp [hm, hg]
    · simp [hg] at h; subst h; simp [hm]; omega
  · rw [frameStep_9 _ _ _ hm] at h; cases h; simp [hm]

/-- What a step of a frame changes, and that it only appends to the trace. -/
theorem frameStep_frame {f : Frame} {p : Phase} {s t : State} (h : frameStep f p s = some t) :
    ∃ sel mpc hb lb replies ops phase, t = { s with
      sel := sel, mpc := mpc, hb := hb, lb := lb, replies := replies, trace := s.trace ++ ops, phase := phase } := by
  rcases frameStep_cases h with ⟨-, rfl⟩ | ⟨-, rfl⟩ | ⟨-, b, rest, -, rfl⟩ | ⟨-, rfl⟩ | ⟨-, b, rest, -, rfl⟩ | ⟨-, rfl⟩ |
    ⟨-, b, rest, -, rfl⟩ | ⟨-, rfl⟩ | ⟨-, -, rfl⟩ | ⟨-, -, rfl⟩ | ⟨-, rfl⟩ | ⟨out, rest, -, -, rfl⟩
  case inr.inr.inr.inr.inr.inl =>
    split
    · exact ⟨_, _, _, _, _, _, _, rfl⟩
    · exact ⟨s.sel, 6, s.hb, s.lb, s.replies, [], s.phase, by simp [setMpc]⟩
  case inr.inr.inr.inr.inr.inr.inr.inr.inr.inr.inl =>
    split
    · exact ⟨_, _, _, _, _, _, _, rfl⟩
    · exact ⟨s.sel, 0, s.hb, s.lb, s.replies, [], p, by simp [setMpc, setPhase, endFrame]⟩
  all_goals exact ⟨_, _, _, _, _, _, _, rfl⟩

/-- What the end step changes (R36, R145). -/
theorem endCommand_frame (c : Code) (s : State) : ∃ code done history, endCommand c s = { s with
    st := .idle, mpc := 0, phase := .decode, wire := none, code := code, done := done, history := history } := by
  unfold endCommand; split <;> exact ⟨_, _, _, rfl⟩

/-- What FIDX holds after a loop is a value of R23. -/
theorem holdIndex_fidx_le (s : State) : (holdIndex s).fidx.toNat ≤ 10 := by
  rw [holdIndex_fidx]; split
  · assumption
  · decide

/-- All the loop's test can do (R85): the next frame, or the end with FIDX held. -/
theorem nextRegister_cases (count : Nat) (s : State) :
    (s.fidx.toNat < count ∧ nextRegister count s = startFrame s) ∨
    (count ≤ s.fidx.toNat ∧ nextRegister count s = setPhase (.finish .ok) (holdIndex s)) := by
  unfold nextRegister
  split
  · exact .inl ⟨‹_›, rfl⟩
  · exact .inr ⟨by omega, rfl⟩

/-- Everything one step of a busy block can do (R37). -/
theorem busyStep_cases {m : Micro} {s t : State} (h : busyStep m s = some t) :
    (s.phase = .decode ∧ t = m.start s) ∨
    (s.phase = .frame ∧ ∃ f, m.send s = some f ∧ frameStep f m.afterFrame s = some t) ∨
    (s.phase = .abort ∧ t = abortStep s) ∨
    (s.phase = .compute ∧ m.compute s = some t) ∨
    (s.phase = .finish .ok ∧ t = endCommand .ok (m.commit s)) ∨
    (∃ c, c ≠ .ok ∧ s.phase = .finish c ∧ t = endCommand c s) := by
  unfold busyStep at h
  split at h
  · rename_i hp; cases h; exact .inl ⟨hp, rfl⟩
  · rename_i hp
    obtain ⟨f, hf, h⟩ := Option.bind_eq_some_iff.mp h
    exact .inr (.inl ⟨hp, f, hf, h⟩)
  · rename_i hp; cases h; exact .inr (.inr (.inl ⟨hp, rfl⟩))
  · rename_i hp; exact .inr (.inr (.inr (.inl ⟨hp, h⟩)))
  · rename_i c hp
    by_cases hc : c = .ok
    · subst hc; simp at h; exact .inr (.inr (.inr (.inr (.inl ⟨hp, h.symm⟩))))
    · simp [hc] at h; exact .inr (.inr (.inr (.inr (.inr ⟨c, hc, hp, h.symm⟩))))

/-- What an instruction's own parts, a frame's steps and the end step keep, every step keeps. -/
theorem busyStep_keeps (m : Micro) (P : State → Prop)
    (hstart : ∀ s, P s → P (m.start s)) (hcompute : ∀ s t, P s → m.compute s = some t → P t)
    (hcommit : ∀ s, P s → P (m.commit s)) (hend : ∀ s c, P s → P (endCommand c s))
    (hframe : ∀ s sel mpc hb lb replies ops phase, P s → P { s with
      sel := sel, mpc := mpc, hb := hb, lb := lb, replies := replies, trace := s.trace ++ ops, phase := phase })
    (s t : State) (h : P s) (hb : busyStep m s = some t) : P t := by
  rcases busyStep_cases hb with ⟨-, rfl⟩ | ⟨-, f, -, hf⟩ | ⟨-, rfl⟩ | ⟨-, hc⟩ | ⟨-, rfl⟩ | ⟨c, -, -, rfl⟩
  · exact hstart s h
  · obtain ⟨sel, mpc, hb, lb, replies, ops, phase, rfl⟩ := frameStep_frame hf
    exact hframe _ _ _ _ _ _ _ _ h
  · exact hframe s false 0 s.hb s.lb s.replies [.selDeassert] (.finish .busError) h
  · exact hcompute s t h hc
  · exact hend _ _ (hcommit s h)
  · exact hend _ _ h

/-- What the reset, the countdown, acceptance and every step keep, running an instruction keeps. -/
theorem perform_keeps (r : Request) (m : Micro) (P : State → Prop) (hr : ∀ s, P s → P (blockReset s))
    (hc : ∀ s, P s → P (countDown s)) (ha : ∀ s, s.st = .idle → P s → P (accept r s))
    (hs : ∀ s t, P s → busyStep m s = some t → P t) (s : State) (h : P s) : P (perform r m s) := by
  unfold perform
  split
  · exact drive_keeps m P hr hc hs _ _ h
  · split
    · exact hr s h
    · rename_i hst _
      exact drive_keeps m P hr hc hs _ _ (ha _ (by cases hh : s.st <;> simp_all [countDown]) (hc s h))

/-- A run from `P`, no reset coming, whose steps stay in `P` or end in `Q`, stops in `P` or ends in `Q`. -/
theorem drive_to (m : Micro) (P Q : State → Prop) (hn : ∀ s, P s → s.resetIn = none)
    (hs : ∀ s t, P s → busyStep m s = some t → (t.st = .busy ∧ P t) ∨ (t.st = .idle ∧ Q t)) (n : Nat) (s : State)
    (h : P s) : P (drive m n s) ∨ Q (drive m n s) := by
  induction n generalizing s with
  | zero => exact .inl h
  | succ n ih =>
    cases hb : busyStep m s with
    | none => rw [drive_wait m _ s (hn s h) hb]; exact .inl h
    | some t =>
      rcases hs s t h hb with ⟨ht, hp⟩ | ⟨ht, hq⟩
      · rw [drive_go m n s t (hn s h) hb ht]; exact ih t hp
      · rw [drive_stop m n s t (hn s h) hb ht]; exact .inr hq

end Sys2Proof.Machine
end

