-- ==== Sys2Proof/Laws/Safety.lean ====
section
/-! SUPPORT. What one event does to the two host duties of Safety.lean (R162, R163, R166), so that a history is walked
event by event. -/

namespace Sys2Proof.Safety

open Sys2Proof.Machine

theorem bootProgress_append (seq : List BootStep) (h : List Event) (e : Event) :
    bootProgress seq (h ++ [e]) = bootNext seq (bootProgress seq h) e := by simp [bootProgress]

theorem checksumTrack_append (k : ChecksumRange) (h : List Event) (e : Event) :
    checksumTrack k (h ++ [e]) = checksumNext k (checksumTrack k h) e := by simp [checksumTrack]

/-- What one event can do to the progress: undo it, start the sequence, keep its end, or go on by the next command. -/
theorem bootDone_cases (seq : List BootStep) (b : BootProgress) (e : Event) :
    bootDone seq b e = 0 ∨ ∃ i, endedOk e = some i ∧
      (bootDone seq b e = b.done + 1 ∧ (seq[b.done]?).bind (BootStep.command b.csum) = some i ∨
       bootDone seq b e = 1 ∧ (seq[0]?).bind (BootStep.command b.csum) = some i ∨
       bootDone seq b e = b.done ∧ b.done = seq.length ∧ disturbsCalibration i = false) := by
  unfold bootDone
  split
  · exact .inl rfl
  · rename_i i hi
    split_ifs with h1 h2 h3
    · exact .inr ⟨i, hi, .inl ⟨rfl, h1⟩⟩
    · exact .inr ⟨i, hi, .inr (.inl ⟨rfl, h2⟩)⟩
    · exact .inr ⟨i, hi, .inr (.inr ⟨rfl, by simpa using h3⟩)⟩
    · exact .inl rfl

/-- A WRITE to the range makes a new result due, and an error breaks the range. -/
theorem trackWrite_inside (k : ChecksumRange) (a : Addr) (v : Half) (c : Code) (d : ChecksumTrack) (h0 : a ≠ 0)
    (h : k.holds a = true) :
    trackWrite k a v c d = { d with result := none, owed := true, broken := d.broken || c != .ok } :=
  (if_neg fun h => h0 h.1).trans (if_pos h)

/-- A WRITE of the checksum register settles what is due if it ended OK, and is wrong unless it carries the result. -/
theorem trackWrite_target (k : ChecksumRange) (v : Half) (c : Code) (d : ChecksumTrack) (h0 : k.target ≠ 0)
    (h : k.holds k.target = false) :
    trackWrite k k.target v c d =
      { d with owed := c != .ok, wrong := d.wrong || d.broken || d.result != some v } :=
  (if_neg fun h => h0 h.1).trans ((if_neg (by simp [h])).trans (if_pos rfl))

/-- A WRITE elsewhere does nothing. -/
theorem trackWrite_elsewhere (k : ChecksumRange) (a : Addr) (v : Half) (c : Code) (d : ChecksumTrack) (h0 : a ≠ 0)
    (h : k.holds a = false) (ht : a ≠ k.target) : trackWrite k a v c d = d :=
  (if_neg fun h => h0 h.1).trans ((if_neg (by simp [h])).trans (if_neg ht))

end Sys2Proof.Safety
end

