-- ==== Sys2Proof/Tests/Slice0.lean ====
section
/-! SUPPORT. The author's tests: the checks of WellFormed, a written-out word for every constructor, vectors of
spec/95_test_vectors.md, and for every obligation with hypotheses a concrete case that meets them (`witness_…`). -/

namespace Sys2Proof.Tests

open Sys2Proof Sys2Proof.Machine Sys2Proof.Safety Sys2Proof.Expect

/-! ### Small states -/

/-- The default configuration with VGAIN = 1/1 and P_DIV = 1. -/
def cfg1 : Config := { Config.default with vgainNum := 1, vgainDenLess1 := 0, pDiv := .one }

/-- P_DIV = 1000 (program P4). -/
def cfgP4 : Config := { cfg1 with pDiv := .thousand }

/-- A valid instance after reset, with these requests at its port and these answers to come. -/
def ready (port : List Request) (replies : List Reply) : State :=
  { State.reset with cfg := cfg1, port := port, replies := replies }

/-- Bytes as BusTransport's answers. -/
def bytes (l : List Byte) : List Reply := l.map .byte

/-- The state an outcome gives, where it gives one. -/
def stateOf (o : Host.Outcome State Fault Refusal) : State :=
  match o with
  | .next t => t
  | .fault _ => State.reset
  | .refused _ => State.reset

/-- READ 0x03 with no answer to its header yet. -/
def waiting : State :=
  { ready [] [] with st := .busy, cmd := 0x01030000, sel := true, mpc := 2, phase := .frame,
                     trace := [.selAssert, .delayUs 5] }

theorem ready_ready (port : List Request) (replies : List Reply) : Ready (ready port replies) := ⟨rfl, rfl⟩

theorem exec_stateOf (i : Instr) (s : State) : exec i s = .next (stateOf (exec i s)) := by
  rw [exec_eq]; rfl

theorem step_stateOf (s : State) (h : s.cfg.timingOk = true) : step s = .next (stateOf (step s)) := by
  rw [step_eq s h]; rfl

/-! ### WellFormed: each check refuses an ill-formed term (R42, R54, R65) -/

theorem test_read_reserved_ill_formed : (Instr.read 0x3C).wellFormed = false := by decide
theorem test_read_past_measure_ill_formed : (Instr.read 0x70).wellFormed = false := by decide
theorem test_write_read_only_ill_formed : (Instr.write 0x40 1).wellFormed = false := by decide
theorem test_frame_read_ill_formed : (Instr.frameRead 0x3F).wellFormed = false := by decide
theorem test_frame_write_ill_formed : (Instr.frameWrite 0x3C 0).wellFormed = false := by decide
theorem test_well_formed : (Instr.read 0x6F).wellFormed = true ∧ (Instr.write 0x3B 0).wellFormed = true ∧
    (Instr.frameRead 0x40).wellFormed = true ∧ (Instr.frameWrite 0x00 0x789A).wellFormed = true := by decide

/-! ### Decoding: words written out from R63, R66 and R68 (spec/95_test_vectors.md 2.1, 2.2, 3) -/

theorem test_decode_read : decodeTableWord 32 0x01030000 = some (.read 0x03) ∧
    decodeTableWord 32 0x016F0000 = some (.read 0x6F) := by decide
theorem test_decode_write : decodeTableWord 32 0x02031234 = some (.write 0x03 0x1234) ∧
    decodeTableWord 32 0x022B9422 = some (.write 0x2B 0x9422) := by decide
theorem test_decode_cs : decodeTableWord 32 0x08000000 = some .cs1 ∧ decodeTableWord 32 0x09000000 = some .cs2 := by decide
theorem test_decode_meas_power : decodeTableWord 32 0x10000000 = some .measV ∧
    decodeTableWord 32 0x11000000 = some .measI ∧ decodeTableWord 32 0x12000000 = some .measP ∧
    decodeTableWord 32 0x13000000 = some .measQ ∧ decodeTableWord 32 0x14000000 = some .measS ∧
    decodeTableWord 32 0x15000000 = some .measF ∧ decodeTableWord 32 0x16000000 = some .measPF ∧
    decodeTableWord 32 0x17000000 = some .measPA := by decide
theorem test_decode_meas_energy : decodeTableWord 32 0x18000000 = some .measEAF ∧
    decodeTableWord 32 0x19000000 = some .measEAR ∧ decodeTableWord 32 0x1A000000 = some .measEAA ∧
    decodeTableWord 32 0x1B000000 = some .measERF ∧ decodeTableWord 32 0x1C000000 = some .measERR ∧
    decodeTableWord 32 0x1D000000 = some .measERA := by decide
theorem test_decode_conv_power : decodeTableWord 32 0x20002710 = some (.convV 0x2710) ∧
    decodeTableWord 32 0x210003E8 = some (.convI 0x03E8) ∧ decodeTableWord 32 0x2200FFFE = some (.convP 0xFFFE) ∧
    decodeTableWord 32 0x23008032 = some (.convQ 0x8032) ∧ decodeTableWord 32 0x2400FFFF = some (.convS 0xFFFF) ∧
    decodeTableWord 32 0x25001388 = some (.convF 0x1388) ∧ decodeTableWord 32 0x26008032 = some (.convPF 0x8032) ∧
    decodeTableWord 32 0x2700FF9C = some (.convPA 0xFF9C) := by decide
theorem test_decode_conv_energy : decodeTableWord 32 0x28000064 = some (.convEAF 0x0064) ∧
    decodeTableWord 32 0x29000065 = some (.convEAR 0x0065) ∧ decodeTableWord 32 0x2A008000 = some (.convEAA 0x8000) ∧
    decodeTableWord 32 0x2B000003 = some (.convERF 0x0003) ∧ decodeTableWord 32 0x2C000004 = some (.convERR 0x0004) ∧
    decodeTableWord 32 0x2D00FFFF = some (.convERA 0xFFFF) := by decide
theorem test_decode_frames : decodeTableWord 8 0xC9 = some (.frameRead 0x49) ∧
    decodeTableWord 8 0x80 = some (.frameRead 0x00) ∧ decodeTableWord 8 0x3B = some (.frameWrite 0x3B 0) ∧
    decode (.frame 0x20 0x5678) = .ok (.frameWrite 0x20 0x5678) := by decide
theorem test_decode_illegal : decode (.command 0x03000000) = .error .unknownOpcode ∧
    decode (.command 0x1E000000) = .error .unknownOpcode ∧ decode (.command 0x2F001234) = .error .unknownOpcode ∧
    decode (.command 0xFF000000) = .error .unknownOpcode ∧ decode (.command 0x01830000) = .error .reservedBit ∧
    decode (.command 0x01030001) = .error .unusedData ∧ decode (.command 0x08010000) = .error .unusedAddr ∧
    decode (.command 0x01F00001) = .error .reservedBit := by decide

/-! ### Vectors of spec/95_test_vectors.md, one step each -/

theorem test_W1 : let t := stateOf (step (ready [.command 0x02031234] (bytes [0, 0, 0])))
    t.code = .ok ∧ t.trace = [.selAssert, .delayUs 5, .xchg 0x03 (.byte 0), .delayUs 4, .xchg 0x12 (.byte 0),
      .xchg 0x34 (.byte 0), .delayUs 5, .selDeassert] := by decide
theorem test_W3 : let t := stateOf (step (ready [.command 0x02400001] [])); t.code = .invalidAddress ∧ t.trace = [] := by
  decide
theorem test_R1 : let t := stateOf (step (ready [.command 0x01030000] (bytes [0, 0x12, 0x34])))
    t.rdata = 0x1234 ∧ t.rdataValid = true ∧ t.code = .ok ∧ t.trace = [.selAssert, .delayUs 5, .xchg 0x83 (.byte 0),
      .delayUs 4, .xchg 0 (.byte 0x12), .xchg 0 (.byte 0x34), .delayUs 5, .selDeassert] := by decide
theorem test_R4 : let t := stateOf (step (ready [.command 0x01030000] [.byte 0, .byte 0x12, .busError]))
    t.code = .busError ∧ t.rdataValid = false ∧ t.hb = 0x12 ∧ t.trace = [.selAssert, .delayUs 5, .xchg 0x83 (.byte 0),
      .delayUs 4, .xchg 0 (.byte 0x12), .xchg 0 .busError, .selDeassert] := by decide

/-- The frame of 2.1 with T_DATA = 2 and T_GAP = 10 (WRITE 0x02, 0x0030) has ten operations. -/
theorem test_frame_ten_operations :
    (stateOf (step { ready [.command 0x02020030] (bytes [0, 0, 0]) with
      cfg := { cfg1 with tData := 2, tGap := 10 } })).trace = [.selAssert, .delayUs 5, .xchg 0x02 (.byte 0), .delayUs 4,
        .xchg 0x00 (.byte 0), .delayUs 2, .xchg 0x30 (.byte 0), .delayUs 5, .selDeassert, .delayUs 10] := by decide

theorem test_CK4 : let t := stateOf (step (ready [.command 0x08000000] (bytes
    [0, 0x00, 0x15, 0, 0xD1, 0x74, 0, 0, 0, 0, 0, 0, 0, 0, 0, 0, 0, 0, 0, 0x08, 0xBD, 0, 0, 0, 0, 0x0A, 0xEC,
     0, 0, 0, 0, 0x94, 0x22])))
    t.csum = 0x55CB ∧ t.csumValid = true ∧ t.code = .ok ∧ t.fidx = 10 ∧ t.trace.length = 88 := by decide +kernel
theorem test_CK12 : let t := stateOf (step (ready [.command 0x09000000] (bytes
    [0, 0xD4, 0x64, 0, 0x6E, 0x49, 0, 0, 0, 0, 0, 0, 0, 0, 0, 0, 0, 0, 0, 0, 0, 0, 0, 0, 0, 0, 0, 0, 0, 0])))
    t.csum = 0x97EF ∧ t.fidx = 10 ∧ t.trace.length = 80 := by decide +kernel
/-- CK14 and P5: the third frame's first data byte fails. -/
theorem test_CK14 : let t := stateOf (step { ready [.command 0x08000000]
      (bytes [0, 1, 1, 0, 1, 1, 0] ++ [.busError]) with csum := 0xBEEF, csumValid := true })
    t.code = .busError ∧ t.csum = 0xBEEF ∧ t.sel = false ∧ t.trace.length = 22 ∧ t.trace.drop 18 =
      [.xchg 0xA3 (.byte 0), .delayUs 4, .xchg 0 .busError, .selDeassert] := by decide +kernel

/-- One command of P4: the header its frame sends, RDATA, and the pair. -/
def measured (w : Word) (x y : Byte) : Option Op × Half × Int × Nat :=
  let t := stateOf (step { ready [.command w] (bytes [0, x, y]) with cfg := cfgP4 })
  (t.trace[2]?, t.rdata, t.convM, t.convD)

theorem test_measV : measured 0x10000000 0x5A 0x1E = (some (.xchg 0xC9 (.byte 0)), 0x5A1E, 23070, 100) := by decide
theorem test_measI : measured 0x11000000 0x13 0x88 = (some (.xchg 0xC8 (.byte 0)), 0x1388, 5000, 1000) := by decide
theorem test_measP : measured 0x12000000 0xFC 0x18 = (some (.xchg 0xCA (.byte 0)), 0xFC18, -1000, 1000) := by decide
theorem test_measQ : measured 0x13000000 0x80 0x32 = (some (.xchg 0xCB (.byte 0)), 0x8032, -32718, 1) := by decide
theorem test_measS : measured 0x14000000 0xFF 0xFF = (some (.xchg 0xCF (.byte 0)), 0xFFFF, -1, 1) := by decide
theorem test_measF : measured 0x15000000 0x13 0x83 = (some (.xchg 0xCC (.byte 0)), 0x1383, 4995, 100) := by decide
theorem test_measPF : measured 0x16000000 0x83 0xE8 = (some (.xchg 0xCD (.byte 0)), 0x83E8, -1000, 1000) := by decide
theorem test_measPA : measured 0x17000000 0xFF 0x9C = (some (.xchg 0xCE (.byte 0)), 0xFF9C, -100, 1) := by decide
theorem test_measEAF : measured 0x18000000 0x00 0x64 = (some (.xchg 0xC0 (.byte 0)), 0x0064, 100, 1) := by decide
theorem test_measEAR : measured 0x19000000 0x80 0x00 = (some (.xchg 0xC1 (.byte 0)), 0x8000, 32768, 1) := by decide
theorem test_measEAA : measured 0x1A000000 0x80 0x00 = (some (.xchg 0xC2 (.byte 0)), 0x8000, 32768, 1) := by decide
theorem test_measERF : measured 0x1B000000 0x00 0x07 = (some (.xchg 0xC3 (.byte 0)), 0x0007, 7, 10) := by decide
theorem test_measERR : measured 0x1C000000 0x00 0x03 = (some (.xchg 0xC4 (.byte 0)), 0x0003, 3, 10) := by decide
theorem test_measERA : measured 0x1D000000 0xFF 0xFF = (some (.xchg 0xC5 (.byte 0)), 0xFFFF, 65535, 10) := by decide

/-- The pair and code of one CONV command, and whether it left the bus alone. -/
def converted (c : Config) (w : Word) : Int × Nat × BitVec 4 × Bool :=
  let t := stateOf (step { ready [.command w] [] with cfg := c })
  (t.convM, t.convD, t.convQ, t.trace.isEmpty)

theorem test_convV : converted cfg1 0x20002710 = (10000, 100, 0x0, true) ∧
    converted { cfg1 with vgainNum := 3, vgainDenLess1 := 1 } 0x20002710 = (30000, 200, 0x0, true) := by decide
theorem test_convI : converted cfg1 0x21008000 = (32768, 1000, 0x1, true) := by decide
theorem test_convP : converted cfg1 0x2200FFFE = (-2, 1, 0x2, true) ∧
    converted cfgP4 0x2200FFFE = (-2, 1000, 0x2, true) := by decide
theorem test_convQ : converted cfg1 0x23008032 = (-32718, 1, 0x3, true) := by decide
theorem test_convS : converted cfg1 0x2400FFFF = (-1, 1, 0x4, true) := by decide
theorem test_convF : converted cfg1 0x25001388 = (5000, 100, 0x5, true) := by decide
theorem test_convPF : converted cfg1 0x26008032 = (-50, 1000, 0x6, true) ∧
    converted cfg1 0x26008000 = (0, 1000, 0x6, true) := by decide
theorem test_convPA : converted cfg1 0x2700FF9C = (-100, 1, 0x7, true) := by decide
theorem test_convEAF : converted cfg1 0x28000064 = (100, 1, 0x8, true) := by decide
theorem test_convEAR : converted cfg1 0x2900FFFF = (65535, 1, 0x9, true) := by decide
theorem test_convEAA : converted cfg1 0x2A008000 = (32768, 1, 0xA, true) := by decide
theorem test_convERF : converted cfg1 0x2B000003 = (3, 10, 0xB, true) := by decide
theorem test_convERR : converted cfg1 0x2C000003 = (3, 10, 0xC, true) := by decide
theorem test_convERA : converted cfg1 0x2D00FFFF = (65535, 10, 0xD, true) := by decide

theorem test_frameRead : let t := stateOf (step (ready [.frame 0xC9 0] (bytes [0, 0x5A, 0x1E])))
    t.hb = 0x5A ∧ t.lb = 0x1E ∧ t.rdataValid = false ∧ t.done = false ∧ t.trace.length = 8 := by decide
theorem test_frameWrite : (stateOf (step (ready [.frame 0x20 0x5678] (bytes [0, 0, 0])))).trace =
    [.selAssert, .delayUs 5, .xchg 0x20 (.byte 0), .delayUs 4, .xchg 0x56 (.byte 0), .xchg 0x78 (.byte 0), .delayUs 5,
     .selDeassert] := by decide

/-- A placed row runs as the first instruction after reset, whose transport has not answered yet (R37). -/
theorem test_placed_row_runs : let t := stateOf (step (State.reset.withFetchWord 32 0x01030000))
    t.st = .busy ∧ t.cmd = 0x01030000 ∧ t.trace = [.selAssert, .delayUs 5] := by decide

/-! ### Witnesses: concrete cases that meet an obligation's hypotheses -/

theorem witness_EncodeOfDecodedWord : decode (.command 0x02031234) = .ok (.write 0x03 0x1234) := by decide

theorem witness_WordRejectedExactlyWhenIllegal :
    legalWord (0x02031234 : Word).toNat ∧ ¬ legalWord (0x02831234 : Word).toNat := by unfold legalWord; decide

theorem witness_AddressClasses : (0x3B : Addr).toNat ≤ 0x3B ∧ 0x3C ≤ (0x3C : Addr).toNat ∧ (0x3F : Addr).toNat ≤ 0x3F ∧
    0x40 ≤ (0x40 : Addr).toNat ∧ (0x6F : Addr).toNat ≤ 0x6F ∧ 0x70 ≤ (0x70 : Addr).toNat ∧ (0x7F : Addr).toNat = 0x7F := by
  decide

theorem witness_StepRunsTheDecodedInstruction :
    (let s := ready [.command 0x08000000] []
     s.cfg.timingOk = true ∧ s.st = .idle ∧ s.port = [.command 0x08000000] ∧ decode (.command 0x08000000) = .ok .cs1) ∧
    (waiting.cfg.timingOk = true ∧ waiting.st = .busy ∧ waiting.wire = none ∧
     decode (.command waiting.cmd) = .ok (.read 0x03)) ∧
    (let s := { waiting with wire := some (0x83, 0) }
     s.cfg.timingOk = true ∧ s.st = .busy ∧ s.wire = some (0x83, 0) ∧ decode (.frame 0x83 0) = .ok (.frameRead 0x03)) := by
  decide

theorem witness_PlacedWordRunsNext : State.reset.cfg.timingOk = true ∧
    decodeTableWord 32 0x26008032 = some (.convPF 0x8032) ∧ decodeTableWord 8 0xFF = some (.frameRead 0x7F) ∧
    decodeTableWord 8 0x00 = some (.frameWrite 0x00 0) := by decide

theorem witness_IllegalWordEndsTheCommand : let s := ready [.command 0x00000000] []
    s.cfg.timingOk = true ∧ Ready s ∧ s.port = .command 0x00000000 :: [] ∧ ¬ legalWord (0x00000000 : Word).toNat :=
  ⟨by decide, ready_ready _ _, rfl, by unfold legalWord; decide⟩

theorem witness_InvalidInstanceRefused :
    ({ cfg1 with tPre := 4 }).tPre < 5 ∧ ({ cfg1 with tHdr := 3 }).tHdr < 4 ∧ ({ cfg1 with tPost := 4 }).tPost < 5 ∧
    5 ≤ cfg1.tPre ∧ 4 ≤ cfg1.tHdr ∧ 5 ≤ cfg1.tPost ∧ cfg1.tPre = 5 ∧ cfg1.tHdr = 4 ∧ cfg1.tPost = 5 := by decide

theorem witness_inv : BlockInv waiting := by unfold BlockInv; decide

theorem witness_WaitingChangesNothing :
    (let s := ready [] []; s.cfg.timingOk = true ∧ Ready s ∧ s.port = []) ∧
    (BlockInv waiting ∧ waiting.resetIn = none ∧ waitsOnBus waiting = true) :=
  ⟨⟨by decide, ready_ready _ _, rfl⟩, witness_inv, rfl, by decide⟩

/-- The lowest and highest readable address of each class (R42), with three bytes to come. -/
theorem witness_ReadReturnsTheRegister : let s := ready [] (bytes [0, 0x12, 0x34])
    Ready s ∧ s.replies = repliesTo (0, 0x12, 0x34) ++ [] ∧ readable 0x00 = true ∧ readable 0x3B = true ∧
      readable 0x40 = true ∧ readable 0x6F = true :=
  ⟨ready_ready _ _, rfl, by decide, by decide, by decide, by decide⟩

theorem witness_WriteSendsTheValue : let s := ready [] (bytes [0, 0, 0])
    Ready s ∧ s.replies = repliesTo (0, 0, 0) ++ [] ∧ writable 0x00 = true ∧ writable 0x3B = true :=
  ⟨ready_ready _ _, rfl, by decide, by decide⟩

theorem witness_DisallowedAddressIsInvalidAddress : Ready (ready [] []) ∧ 0x3B < (0x3C : Addr).toNat ∧
    0x3B < (0x7F : Addr).toNat ∧ (0x3C ≤ (0x3C : Addr).toNat ∧ (0x3C : Addr).toNat ≤ 0x3F) ∧
    (0x3C ≤ (0x3F : Addr).toNat ∧ (0x3F : Addr).toNat ≤ 0x3F) ∧ (0x70 ≤ (0x70 : Addr).toNat ∧ (0x70 : Addr).toNat ≤ 0x7F) ∧
    (0x70 ≤ (0x7F : Addr).toNat ∧ (0x7F : Addr).toNat ≤ 0x7F) :=
  ⟨ready_ready _ _, by decide, by decide, by decide, by decide, by decide, by decide⟩

theorem witness_BareFrameLeavesTheTwoBytes : let s := ready [] (bytes [0, 0x5A, 0x1E])
    Ready s ∧ s.replies = repliesTo (0, 0x5A, 0x1E) ++ [] ∧ readable 0x6F = true ∧ writable 0x3B = true :=
  ⟨ready_ready _ _, rfl, by decide, by decide⟩

/-- An address refused in each direction, and a failure at each of the three exchanges. -/
theorem witness_BareFrameErrors : Ready (ready [] []) ∧ readable 0x3C = false ∧ readable 0x70 = false ∧
    writable 0x3C = false ∧ writable 0x40 = false ∧ readable 0x3B = true ∧ writable 0x3B = true ∧
    (ready [] [.busError]).replies = ([] : List Byte).map .byte ++ .busError :: [] ∧
    (ready [] [.byte 1, .busError]).replies = [1].map .byte ++ .busError :: [] ∧
    (ready [] [.byte 1, .byte 2, .busError]).replies = [1, 2].map .byte ++ .busError :: [] :=
  ⟨ready_ready _ _, by decide, by decide, by decide, by decide, by decide, by decide, rfl, rfl, rfl⟩

theorem witness_FailedExchangeAbortsTheCommand : let s := ready [] [.byte 1, .byte 2, .busError]
    Ready s ∧ oneFrame s.cfg (.read 0x03) = some (0x83, 0, 0) ∧ encode (.read 0x03) = .command 0x01030000 ∧
      oneFrame s.cfg (.write 0x3B 0xFFFF) = some (0x3B, 0xFF, 0xFF) ∧ encode (.write 0x3B 0xFFFF) = .command 0x023BFFFF ∧
      oneFrame s.cfg .measV = some (0xC9, 0, 0) ∧ encode .measV = .command 0x10000000 ∧
      ([1, 2] : List Byte).length ≤ 2 ∧ s.replies = [1, 2].map .byte ++ .busError :: [] :=
  ⟨ready_ready _ _, by decide, by decide, by decide, by decide, by decide, by decide, by decide, rfl⟩

theorem witness_FrameEmitsEightOperations : let s := ready [] (bytes [0, 0x12, 0x34])
    Ready s ∧ s.cfg.tData = 0 ∧ s.cfg.tGap = 0 ∧ cfg1.tData = 0 ∧ cfg1.tGap = 0 ∧
      oneFrame s.cfg (.read 0x03) = some (0x83, 0, 0) ∧ s.replies = repliesTo (0, 0x12, 0x34) ++ [] :=
  ⟨ready_ready _ _, rfl, rfl, rfl, rfl, by decide, rfl⟩

/-- S6 and P1 on the empty test double: WRITE 0x03, 0x1234, then READ 0x03. -/
theorem witness_WriteThenReadOnTheDouble :
    let s := ready [] (bytes [0, 0, 0])
    let t := stateOf (exec (.write 0x03 0x1234) s)
    let u := stateOf (exec (.read 0x03) { t with replies := bytes [0, 0x12, 0x34] })
    let d : Double := { regs := [], sent := [] }
    let d1 : Double := { regs := [(0x03, 0x1234)], sent := [] }
    (Ready s ∧ (0x03 : Addr).toNat ≤ 0x3B ∧ exec (.write 0x03 0x1234) s = .next t ∧
      exec (.read 0x03) { t with replies := bytes [0, 0x12, 0x34] } = .next u) ∧
    (t.st = .idle ∧ t.code = .ok ∧ doubleRun d (t.trace.drop s.trace.length) = some d1 ∧
      u.st = .idle ∧ u.code = .ok ∧ doubleRun d1 (u.trace.drop t.trace.length) = some d1) :=
  ⟨⟨ready_ready _ _, by decide, exec_stateOf _ _, exec_stateOf _ _⟩, by decide⟩

/-- Eleven equal answers, ten equal answers. -/
theorem witness_ChecksumCommandsFoldTheirRange :
    (let s := ready [] (repliesToAll (List.replicate 11 (0, 0xFF, 0xFF)))
     Ready s ∧ s.replies = repliesToAll (List.replicate 11 (0, 0xFF, 0xFF)) ++ [] ∧
      (List.replicate 11 ((0, 0xFF, 0xFF) : Byte × Byte × Byte)).length = 11 ∧
      (List.replicate 11 ((0, 0xFF, 0xFF) : Byte × Byte × Byte)).getLast? = some (0, 0xFF, 0xFF)) ∧
    (let s := ready [] (repliesToAll (List.replicate 10 (0, 0xFF, 0xFF)))
     Ready s ∧ s.replies = repliesToAll (List.replicate 10 (0, 0xFF, 0xFF)) ++ [] ∧
      (List.replicate 10 ((0, 0xFF, 0xFF) : Byte × Byte × Byte)).length = 10 ∧
      (List.replicate 10 ((0, 0xFF, 0xFF) : Byte × Byte × Byte)).getLast? = some (0, 0xFF, 0xFF)) :=
  ⟨⟨ready_ready _ _, by simp [ready], by decide, by decide⟩, ready_ready _ _, by simp [ready], by decide, by decide⟩

/-- CS1 failing in its first frame and in its last, CS2 in its last. -/
theorem witness_FailedExchangeKeepsTheChecksum :
    (let s := ready [] [.busError]
     Ready s ∧ ([] : List (Byte × Byte × Byte)).length < 11 ∧ ([] : List Byte).length ≤ 2 ∧
      s.replies = repliesToAll [] ++ (([] : List Byte).map .byte ++ .busError :: [])) ∧
    (let s := ready [] (repliesToAll (List.replicate 10 (0, 1, 1)) ++ [.byte 0, .byte 1, .busError])
     Ready s ∧ (List.replicate 10 ((0, 1, 1) : Byte × Byte × Byte)).length < 11 ∧ ([0, 1] : List Byte).length ≤ 2 ∧
      s.replies = repliesToAll (List.replicate 10 (0, 1, 1)) ++ ([0, 1].map .byte ++ .busError :: [])) ∧
    (let s := ready [] (repliesToAll (List.replicate 9 (0, 1, 1)) ++ [.byte 0, .busError])
     Ready s ∧ (List.replicate 9 ((0, 1, 1) : Byte × Byte × Byte)).length < 10 ∧ ([0] : List Byte).length ≤ 2 ∧
      s.replies = repliesToAll (List.replicate 9 (0, 1, 1)) ++ ([0].map .byte ++ .busError :: [])) :=
  ⟨⟨ready_ready _ _, by decide, by decide, rfl⟩, ⟨ready_ready _ _, by decide, by decide, rfl⟩,
    ready_ready _ _, by decide, by decide, rfl⟩

theorem witness_MeasReadsAndConverts : let s := ready [] (bytes [0, 0x5A, 0x1E])
    Ready s ∧ (.measV, .v, 0x10) ∈ measTable ∧ (.measERA, .era, 0x1D) ∈ measTable ∧
      s.replies = repliesTo (0, 0x5A, 0x1E) ++ [] :=
  ⟨ready_ready _ _, by decide, by decide, rfl⟩

theorem witness_ConvConvertsTheOperand : Ready (ready [] []) ∧ (.convV 0x2710, .v, 0x20) ∈ convTable 0x2710 ∧
    (.convERA 0xFFFF, .era, 0x2D) ∈ convTable 0xFFFF ∧ decode (.command 0x2D00FFFF) = .ok (.convERA 0xFFFF) :=
  ⟨ready_ready _ _, by decide, by decide, by decide⟩

theorem witness_MeasAgreesWithConv : let s := ready [] (bytes [0, 0x80, 0x32])
    Ready s ∧ Ready (ready [] []) ∧ s.cfg = (ready [] []).cfg ∧ (.measPF, .pf, 0x16) ∈ measTable ∧
      (.convPF 0x8032, .pf, 0x26) ∈ convTable 0x8032 ∧ s.replies = .byte 0 ::
        .byte (BitVec.ofNat 8 ((0x8032 : Half).toNat / 256)) :: .byte (BitVec.ofNat 8 ((0x8032 : Half).toNat % 256)) :: [] :=
  ⟨ready_ready _ _, ready_ready _ _, rfl, by decide, by decide, by decide⟩

theorem witness_VoltageConversion : ({ cfg1 with vgainNum := 0 }).vgainNum = 0 ∧ cfg1.vgainNum = 1 ∧ cfg1.vgainDen = 1 := by
  decide

theorem witness_UnsignedConversions : Quantity.eaa ∈ [Quantity.eaf, .ear, .eaa] ∧
    Quantity.erf ∈ [Quantity.erf, .err, .era] ∧ Quantity.pa ∈ [Quantity.q, .s, .pa] := by decide

/-- A command that ends in the step, and one that does not. -/
theorem witness_CommandEndsWithOneStatus :
    (let s := ready [.command 0x26008032] []
     Ready s ∧ s.port = .command 0x26008032 :: [] ∧ step s = .next (stateOf (step s)) ∧ (stateOf (step s)).st = .idle) ∧
    (let s := ready [.command 0x01030000] []
     Ready s ∧ s.port = .command 0x01030000 :: [] ∧ step s = .next (stateOf (step s)) ∧ (stateOf (step s)).st = .busy) :=
  ⟨⟨ready_ready _ _, rfl, step_stateOf _ (by decide), by decide⟩, ready_ready _ _, rfl, step_stateOf _ (by decide), by decide⟩

theorem witness_BusyTakesNoCommand : let s := { waiting with port := [.command 0x08000000] }
    s.st = .busy ∧ step s = .next (stateOf (step s)) := ⟨rfl, step_stateOf _ (by decide)⟩

theorem witness_ResultRegistersOfOthersKept : waiting.resetIn = none ∧
    exec (.read 0x03) waiting = .next (stateOf (exec (.read 0x03) waiting)) ∧
    writesRData (.write 0x03 1) = false ∧ writesCsum (.read 0x03) = false ∧ writesConv .cs1 = false :=
  ⟨rfl, exec_stateOf _ _, by decide, by decide, by decide⟩

/-- One command for each error code. -/
theorem witness_ErrorsWriteNoResult :
    (let s := ready [.command 0x01030000] [.busError]
     Ready s ∧ s.sel = false ∧ step s = .next (stateOf (step s)) ∧ (stateOf (step s)).st = .idle ∧
      (stateOf (step s)).code = .busError) ∧
    (let s := ready [.command 0x013C0000] []
     Ready s ∧ s.sel = false ∧ step s = .next (stateOf (step s)) ∧ (stateOf (step s)).st = .idle ∧
      (stateOf (step s)).code = .invalidAddress) ∧
    (let s := ready [.command 0x00000000] []
     Ready s ∧ s.sel = false ∧ step s = .next (stateOf (step s)) ∧ (stateOf (step s)).st = .idle ∧
      (stateOf (step s)).code = .illegalCommand) :=
  ⟨⟨ready_ready _ _, rfl, step_stateOf _ (by decide), by decide, by decide⟩,
    ⟨ready_ready _ _, rfl, step_stateOf _ (by decide), by decide, by decide⟩,
    ready_ready _ _, rfl, step_stateOf _ (by decide), by decide, by decide⟩

theorem witness_TraceOnlyGrows : let s := ready [] (bytes [0, 0x12, 0x34])
    s.resetIn = none ∧ exec (.read 0x03) s = .next (stateOf (exec (.read 0x03) s)) := ⟨rfl, exec_stateOf _ _⟩

theorem witness_ConfigurationNeverChanges : let s := { waiting with resetIn := some 0 }
    step s = .next (stateOf (step s)) := step_stateOf _ (by decide)

theorem witness_HostReadNeedsTheValidBit : (ready [] []).rdataValid = false ∧ (ready [] []).csumValid = false ∧
    (ready [] []).convValid = false ∧ (writeRData 5 (ready [] [])).rdataValid = true ∧
    (writeCsum 5 (ready [] [])).csumValid = true ∧ (writeConv .v (1, 1) (ready [] [])).convValid = true := by decide

theorem witness_ResetAbandonsTheCommand : let s := { waiting with resetIn := some 0 }
    s.cfg.timingOk = true ∧ s.resetIn = some 0 := by decide

/-- The reset arrives before the first step of a READ, and within its frame. -/
theorem witness_ResetMayArriveAtAnyStep :
    (let s := { ready [] (bytes [0, 0x12, 0x34]) with resetIn := some 0 }
     s.resetIn = some 0 ∧ exec (.read 0x03) s = .next (stateOf (exec (.read 0x03) s)) ∧
      (stateOf (exec (.read 0x03) s)).resetIn = none) ∧
    (let s := { ready [] (bytes [0, 0x12, 0x34]) with resetIn := some 7 }
     s.resetIn = some 7 ∧ exec (.read 0x03) s = .next (stateOf (exec (.read 0x03) s)) ∧
      (stateOf (exec (.read 0x03) s)).resetIn = none) :=
  ⟨⟨rfl, exec_stateOf _ _, by decide⟩, rfl, exec_stateOf _ _, by decide⟩

theorem witness_InvariantAtReset : State.build cfg1 = .next { State.reset with cfg := cfg1 } :=
  if_pos (by decide)

theorem witness_StepKeepsTheInvariant : let s := { waiting with replies := bytes [0, 0x12, 0x34] }
    BlockInv s ∧ step s = .next (stateOf (step s)) := ⟨witness_inv, step_stateOf _ (by decide)⟩

/-- CS1 just before its last accumulation, from FIDX 10; the two ends of each range; the last frame of CS1 and of CS2,
waiting for its header's answer. -/
theorem witness_FoldIndexStaysInRange :
    (let s := { waiting with cmd := 0x08000000, fidx := 10, sel := false, mpc := 0, phase := .compute }
     s.fidx.toNat ≤ 10 ∧ step s = .next (stateOf (step s)) ∧ (stateOf (step s)).st = .idle ∧
      (foldAddr cs1Base s).toNat = 0x2B) ∧
    ((foldAddr cs1Base waiting).toNat = 0x21 ∧ (foldAddr cs2Base { waiting with fidx := 9 }).toNat = 0x3A) ∧
    (let s := { waiting with cmd := 0x08000000, fidx := 10 }
     BlockInv s ∧ s.phase = .frame ∧ currentInstr s = some .cs1) ∧
    (let s := { waiting with cmd := 0x09000000, fidx := 9 }
     BlockInv s ∧ s.phase = .frame ∧ currentInstr s = some .cs2) :=
  ⟨⟨by decide, step_stateOf _ (by decide), by decide, by decide⟩, by decide,
    ⟨by unfold BlockInv; decide, rfl, by decide⟩, by unfold BlockInv; decide, rfl, by decide⟩

theorem witness_StepEndsOrWaitsOnTheBus : BlockInv waiting ∧ BlockInv (ready [.command 0x08000000] []) :=
  ⟨witness_inv, by unfold BlockInv; decide⟩

/-- A READ that has all its answers, and one that has only the first. -/
theorem witness_AnswersMayComeLater :
    (let s := ready [] (bytes [0, 0x12, 0x34])
     Ready s ∧ exec (.read 0x03) s = .next (stateOf (exec (.read 0x03) s)) ∧ (stateOf (exec (.read 0x03) s)).st = .idle) ∧
    (let s := ready [] (bytes [0])
     Ready s ∧ exec (.read 0x03) s = .next (stateOf (exec (.read 0x03) s)) ∧ (stateOf (exec (.read 0x03) s)).st = .busy) :=
  ⟨⟨ready_ready _ _, exec_stateOf _ _, by decide⟩, ready_ready _ _, exec_stateOf _ _, by decide⟩

/-- The profile of programs P2 and P3, with their checksums. -/
def profileP3 : Profile :=
  { functionEnable := 0x0030, sagThreshold := 0x1F2F,
    block1 := [0x0015, 0xD174, 0, 0, 0, 0, 0x08BD, 0, 0x0AEC, 0, 0x9422],
    block2 := [0xD464, 0x6E49, 0, 0, 0, 0, 0, 0, 0, 0] }

/-- P3's history: the two values that go to 0x2C and 0x3B, after CS1 gave 0x55CB and CS2 0x97EF. -/
def bootP3 (v1 v2 : Half) (adjustmentFirst : Bool) : List Event := bootEvents profileP3 none 0x55CB 0x97EF v1 v2 adjustmentFirst

theorem witness_BootSequenceInitializes : profileP3.block1.length = 11 ∧ profileP3.block2.length = 10 ∧
    checksumDuty [] = true := by decide

/-- R162: each order of the locks; not without the last command, nor with another value than CSUM in 0x2C or 0x3B. -/
theorem test_boot_history :
    initComplete profileP3 (bootP3 0x55CB 0x97EF false) = true ∧ initComplete profileP3 (bootP3 0x55CB 0x97EF true) = true ∧
    initComplete profileP3 (bootP3 0x55CB 0x97EF false).dropLast = false ∧
    initComplete profileP3 (bootP3 0x55CC 0x97EF false) = false ∧ initComplete profileP3 (bootP3 0x55CB 0 true) = false := by
  decide +kernel

/-- R166: P3's history meets it; CS1, the WRITE of its result and then a WRITE to 0x21 does not, until CS1 and the WRITE
come again; nor do a WRITE to the range after CS1, another value than the result, or a WRITE that failed before CS1. -/
theorem test_checksum_duty :
    let w := writeEvent 0x21 0x0015 .ok none
    let cs := csEvent 0x08 0x55CB
    let install := writeEvent 0x2C 0x55CB .ok (some 0x55CB)
    checksumDuty (bootP3 0x55CB 0x97EF true) = true ∧ checksumDuty [w, cs, install] = true ∧
    checksumDuty [cs, install, w] = false ∧ checksumDuty [cs, install, w, cs, install] = true ∧
    checksumDuty [w, cs, w, install] = false ∧ checksumDuty [w, cs, writeEvent 0x2C 0x55CC .ok (some 0x55CB)] = false ∧
    checksumDuty [writeEvent 0x21 0x0015 .busError none, cs, install] = false := by
  decide +kernel

/-- The history's event of CS2 holds the CSUM it leaves (CK12). -/
theorem test_history_holds_csum : (stateOf (step (ready [.command 0x09000000] (bytes
    [0, 0xD4, 0x64, 0, 0x6E, 0x49, 0, 0, 0, 0, 0, 0, 0, 0, 0, 0, 0, 0, 0, 0, 0, 0, 0, 0, 0, 0, 0, 0, 0, 0])))).history =
    [csEvent 0x09 0x97EF] := by decide +kernel

theorem witness_ErrorUndoesInitialization : Code.busError ≠ .ok ∧ Code.invalidAddress ≠ .ok ∧ Code.illegalCommand ≠ .ok := by
  decide

/-- The two ends of each range. -/
theorem witness_RangeWriteMakesTheChecksumDue : 0x21 ≤ (0x21 : Addr).toNat ∧ (0x21 : Addr).toNat ≤ 0x2B ∧
    0x21 ≤ (0x2B : Addr).toNat ∧ (0x2B : Addr).toNat ≤ 0x2B ∧ 0x31 ≤ (0x31 : Addr).toNat ∧ (0x31 : Addr).toNat ≤ 0x3A ∧
    0x31 ≤ (0x3A : Addr).toNat ∧ (0x3A : Addr).toNat ≤ 0x3A ∧ checksumDuty [] = true := by
  decide

/-- A READ that steps while the other instance is idle; two instances that would both be on one bus, the second in a
frame while the first is in one, or would begin one. -/
theorem witness_InstancesAreIndependent :
    let s := ready [.command 0x01030000] []
    step s = .next (stateOf (step s)) ∧ (ready [] []).sel = false ∧ waiting.sel = true ∧ wantsBus s = true :=
  ⟨step_stateOf _ (by decide), rfl, rfl, by decide⟩

end Sys2Proof.Tests
end

/-! PROOFS. The scope rules: the readings of a 16-bit value (00_scope.md R11), and the configuration that no step
changes (R9, R158). -/

namespace Sys2Proof.Proofs

open Sys2Proof.Machine

/-! ### The readings of a 16-bit value -/

/-- `sm_16` with its magnitude as a number: `v[14:0]` is the remainder modulo 2 ^ 15. -/
theorem sm16_eq (v : Half) : sm16 v =
    if v.getLsbD 15 then -((v.toNat % 2 ^ 15 : Nat) : Int) else ((v.toNat % 2 ^ 15 : Nat) : Int) := by
  rw [sm16, magnitude_eq]

/-- Signed magnitude has a second zero. -/
theorem sm16_negative_zero : sm16 0x8000 = 0 := by decide

/-- Settles O32: `zext` and `sext16` are the rule's formulas by definition; two's complement and signed magnitude are
tied to the number of the word by lemmas of their own. -/
theorem signReadings : Obligations.SignReadings :=
  ⟨fun _ => rfl, fun _ => rfl, sext16_eq_toInt, sm16_eq, sm16_negative_zero⟩

/-! ### The configuration under the shared operations -/

section
variable (s : State)

@[simp] theorem accept_cfg (r : Request) : (accept r s).cfg = s.cfg := by
  cases r <;> rfl

@[simp] theorem endCommand_cfg (c : Code) : (endCommand c s).cfg = s.cfg := by
  obtain ⟨code, done, history, h⟩ := endCommand_frame c s
  rw [h]

@[simp] theorem waitIdle_cfg : (waitIdle s).cfg = s.cfg := by
  unfold waitIdle
  split
  · exact blockReset_cfg s
  · exact countDown_cfg s

@[simp] theorem nextRegister_cfg (count : Nat) : (nextRegister count s).cfg = s.cfg := by
  rcases nextRegister_cases count s with ⟨-, h⟩ | ⟨-, h⟩ <;> simp [h]

@[simp] theorem storeMeasurement_cfg (k : Quantity) : (storeMeasurement k s).cfg = s.cfg := by
  simp [storeMeasurement]

/-- The address check of READ, WRITE and the bare frames (R65): a frame begins, or InvalidAddress is raised. -/
theorem startFrame_or_raise_cfg (allowed : Bool) (c : Code) :
    (if allowed then startFrame s else raise c s).cfg = s.cfg := by
  cases allowed <;> rfl

end

/-! ### The configuration under an instruction's own parts -/

/-- The parts a meaning supplies that change the state leave the configuration (R9). -/
structure KeepsConfig (m : Micro) : Prop where
  start : ∀ s, (m.start s).cfg = s.cfg
  compute : ∀ s t, m.compute s = some t → t.cfg = s.cfg
  commit : ∀ s, (m.commit s).cfg = s.cfg

theorem keepsConfig_readMicro (a : Addr) : KeepsConfig (readMicro a) where
  start s := startFrame_or_raise_cfg s _ _
  compute _ _ h := nomatch h
  commit s := writeRData_cfg s _

theorem keepsConfig_writeMicro (a : Addr) (v : Half) : KeepsConfig (writeMicro a v) where
  start s := startFrame_or_raise_cfg s _ _
  compute _ _ h := nomatch h
  commit _ := rfl

theorem keepsConfig_foldMicro (base : Addr) (count : Nat) : KeepsConfig (foldMicro base count) where
  start s := by simp [foldMicro]
  compute s t h := by
    obtain rfl : nextRegister count (accumulate s) = t := Option.some.inj h
    simp
  commit s := writeCsum_cfg s _

theorem keepsConfig_measMicro (k : Quantity) : KeepsConfig (measMicro k) where
  start s := startFrame_cfg s
  compute s t h := by
    obtain rfl : setPhase (.finish .ok) (storeMeasurement k s) = t := Option.some.inj h
    simp
  commit _ := rfl

theorem keepsConfig_convMicro (k : Quantity) (r : Half) : KeepsConfig (convMicro k r) where
  start s := setPhase_cfg s _
  compute s t h := by
    obtain rfl : setPhase (.finish .ok) (writeConv k (convert s.cfg r k) s) = t := Option.some.inj h
    simp
  commit _ := rfl

theorem keepsConfig_frameReadMicro (a : Addr) : KeepsConfig (frameReadMicro a) where
  start s := startFrame_or_raise_cfg s _ _
  compute _ _ h := nomatch h
  commit _ := rfl

theorem keepsConfig_frameWriteMicro (a : Addr) (v : Half) : KeepsConfig (frameWriteMicro a v) where
  start s := startFrame_or_raise_cfg s _ _
  compute _ _ h := nomatch h
  commit _ := rfl

theorem keepsConfig_illegalMicro : KeepsConfig illegalMicro where
  start s := raise_cfg s _
  compute _ _ h := nomatch h
  commit _ := rfl

theorem keepsConfig_microOf : ∀ i, KeepsConfig (microOf i) :=
  microOf_elim (P := fun _ m => KeepsConfig m) keepsConfig_readMicro keepsConfig_writeMicro
    (keepsConfig_foldMicro _ _) (keepsConfig_foldMicro _ _) keepsConfig_measMicro (fun r k => keepsConfig_convMicro k r)
    keepsConfig_frameReadMicro keepsConfig_frameWriteMicro

/-! ### The configuration under a run -/

theorem busyStep_cfg {m : Micro} (hm : KeepsConfig m) {s t : State} (h : busyStep m s = some t) : t.cfg = s.cfg :=
  busyStep_keeps m (fun u => u.cfg = s.cfg) (fun u hu => (hm.start u).trans hu)
    (fun u v hu hv => (hm.compute u v hv).trans hu) (fun u hu => (hm.commit u).trans hu)
    (fun u c hu => (endCommand_cfg u c).trans hu) (fun _ _ _ _ _ _ _ _ hu => hu) s t rfl h

/-- A run keeps the configuration wherever it stops: at its end, waiting, or by the block reset (R158). -/
theorem perform_cfg {m : Micro} (hm : KeepsConfig m) (r : Request) (s : State) : (perform r m s).cfg = s.cfg :=
  perform_keeps r m (fun u => u.cfg = s.cfg) (fun u hu => (blockReset_cfg u).trans hu)
    (fun u hu => (countDown_cfg u).trans hu) (fun u _ hu => (accept_cfg u r).trans hu)
    (fun _ _ hu hv => (busyStep_cfg hm hv).trans hu) s rfl

/-- Settles O39: a step waits, or runs an instruction or an illegal word, and each keeps the configuration. -/
theorem configurationNeverChanges : Obligations.ConfigurationNeverChanges := by
  intro s t h
  obtain ⟨-, ⟨-, rfl⟩ | ⟨r, -, ⟨i, -, rfl⟩ | ⟨e, -, rfl⟩⟩⟩ := step_cases h
  · exact waitIdle_cfg s
  · exact perform_cfg (keepsConfig_microOf i) (encode i) s
  · exact perform_cfg keepsConfig_illegalMicro r s

end Sys2Proof.Proofs

/-! PROOFS. The state of the block (10_state.md): host reads and reset values, what a placed or presented word does,
which registers a run keeps, the range of FIDX, the checksum commands as folds of their range, and that it makes no
difference when BusTransport answers. -/

namespace Sys2Proof.Proofs

open Sys2Proof.Machine Sys2Proof.Safety Sys2Proof.Expect

/-! ### Host reads and reset -/

/-- Settles O40: each host read is a test of its valid bit. -/
theorem hostReadNeedsTheValidBit : Obligations.HostReadNeedsTheValidBit := by
  intro s
  refine ⟨?_, ?_, ?_, ?_, ?_, ?_⟩ <;> intro h
  · simp [readRData, h]
  · simp [readRData, h]
  · simp [readCsum, h]
  · simp [readCsum, h]
  · simp [readConv, h]
  · simp [readConv, h]

/-- Settles O41: the registers of the reset state, and the host's reads of it. -/
theorem resetValues : Obligations.ResetValues :=
  have ⟨noRData, _, noCsum, _, noConv, _⟩ := hostReadNeedsTheValidBit State.reset
  ⟨reset_st, reset_sel, reset_mpc, reset_fidx, reset_rdataValid, reset_csumValid, reset_convValid, reset_code,
    reset_done, reset_trace, noRData reset_rdataValid, noCsum reset_csumValid, noConv reset_convValid, rfl⟩

/-- A block after reset is at rest, whatever its configuration: only the delays decide the invariant. -/
theorem blockInv_reset (c : Config) (h : c.timingOk = true) : BlockInv { State.reset with cfg := c } :=
  ⟨h, rfl, rfl, rfl, rfl, rfl, rfl, rfl⟩

/-- Settles O44: `State.build` answers a state only when the delays meet their minima (R77). -/
theorem invariantAtReset : Obligations.InvariantAtReset := by
  refine ⟨blockInv_reset Config.default rfl, fun c t h => ?_⟩
  by_cases hc : c.timingOk = true
  · obtain rfl : { State.reset with cfg := c } = t := by simpa [State.build, hc] using h
    exact blockInv_reset c hc
  · simp [State.build, hc] at h

/-! ### Placed and presented words -/

/-- A row's word decodes to its instruction as the request `withFetchWord` places. -/
theorem decode_tableRequest {nbits w : Nat} {i : Instr} (h : decodeTableWord nbits w = some i) :
    decode (tableRequest nbits w) = .ok i := by
  have toOption_ok : ∀ e : Except Illegal Instr, e.toOption = some i → e = .ok i
    | .ok _, he => congrArg Except.ok (Option.some.inj he)
  unfold decodeTableWord at h
  split_ifs at h with h32 h8
  · simpa [tableRequest, h32] using toOption_ok _ h
  · simpa [tableRequest, h8] using toOption_ok _ h

/-- Settles O9: the placed request is the head of an IDLE block's port. -/
theorem placedWordRunsNext : Obligations.PlacedWordRunsNext := by
  intro s nbits w i htiming hdecode
  have hcfg : (s.withFetchWord nbits w).cfg.timingOk = true := htiming
  have hreq : currentRequest (s.withFetchWord nbits w) = some (tableRequest nbits w) := rfl
  simp only [step, hcfg, if_true, hreq, decode_tableRequest hdecode]

/-- The OP value of each row of R68. -/
def opOf : OpClass → BitVec 8
  | .read => 0x01
  | .write => 0x02
  | .cs1 => 0x08
  | .cs2 => 0x09
  | .meas k => measOp k
  | .conv k => convOp k

theorem opOf_opClass : ∀ op : BitVec 8, ∀ c ∈ opClass op, opOf c = op := by decide

/-- A row's instruction is encoded with its OP and the fields it uses, the others being 0 (R68, R72). -/
theorem encode_classInstr (a : Addr) (v : Half) (c : OpClass) : encode (classInstr a v c) =
    .command (commandWord (opOf c) (if usesAddr c then a else 0) (if usesData c then v else 0)) := by
  cases c with
  | meas k => cases k <;> rfl
  | conv k => cases k <;> rfl
  | _ => rfl

/-- A word whose RSV is 0 is its fields put together again (R66). -/
theorem commandWord_fields (w : Word) (h : cmdRsv w = false) : commandWord (cmdOp w) (cmdAddr w) (cmdData w) = w := by
  have hw := w.isLt
  have hrsv : w.toNat / 2 ^ 23 % 2 = 0 := by
    simpa [cmdRsv, BitVec.getLsbD, Nat.testBit_eq_decide_div_mod_eq] using h
  apply BitVec.eq_of_toNat_eq
  simp only [commandWord, cmdOp, cmdAddr, cmdData, toNat_append_eq, BitVec.extractLsb'_toNat,
    Nat.shiftRight_eq_div_pow, BitVec.toNat_ofNat]
  omega

/-- A command word that decodes is the encoding of its instruction (R68, R70): the fields a command does not use
are 0. -/
theorem encode_of_decodeCommand {w : Word} {i : Instr} (h : decode (.command w) = .ok i) : encode i = .command w := by
  change decodeCommand w = .ok i at h
  unfold decodeCommand at h
  split at h
  · cases h
  · rename_i c hc
    split_ifs at h with hrsv haddr hdata
    obtain rfl : classInstr (cmdAddr w) (cmdData w) c = i := Except.ok.inj h
    have ha : (if usesAddr c then cmdAddr w else 0) = cmdAddr w := by
      split <;> simp_all
    have hv : (if usesData c then cmdData w else 0) = cmdData w := by
      split <;> simp_all
    rw [encode_classInstr, ha, hv, opOf_opClass _ c hc, commandWord_fields w (by simpa using hrsv)]

/-- A step of a ready block to which a command word is presented accepts it and runs the parts of its instruction, or,
for an illegal word, the parts that raise IllegalCommand. -/
theorem step_command {s t : State} {w : Word} {rest : List Request} (hready : Ready s)
    (hport : s.port = .command w :: rest) (h : step s = .next t) :
    ∃ m, (m = illegalMicro ∨ ∃ i, m = microOf i) ∧ t = drive m maxSteps (accept (.command w) s) := by
  obtain ⟨hidle, hreset⟩ := hready
  have hcur : currentRequest s = some (.command w) := by simp [currentRequest, hidle, hport]
  obtain ⟨-, ⟨hnone, -⟩ | ⟨r, hr, hrun⟩⟩ := step_cases h
  · rw [hcur] at hnone; cases hnone
  · obtain rfl : Request.command w = r := Option.some.inj (hcur.symm.trans hr)
    obtain ⟨i, hi, rfl⟩ | ⟨e, -, rfl⟩ := hrun
    · rw [encode_of_decodeCommand hi]
      exact ⟨microOf i, .inr ⟨i, rfl⟩, perform_idle _ _ s hidle hreset⟩
    · exact ⟨illegalMicro, .inl rfl, perform_idle _ _ s hidle hreset⟩

/-! ### What the parts of an instruction keep -/

/-- The parts a meaning supplies leave `f` of the state as it was. -/
structure Keeps {α : Type} (f : State → α) (m : Micro) : Prop where
  start : ∀ s, f (m.start s) = f s
  compute : ∀ s t, m.compute s = some t → f t = f s
  commit : ∀ s, f (m.commit s) = f s

/-- `f` looks at none of the registers a Fold writes (R85, R91). -/
structure OffFold {α : Type} (f : State → α) : Prop where
  clear : ∀ s, f (clearFold s) = f s
  accumulate : ∀ s, f (accumulate s) = f s
  hold : ∀ s, f (holdIndex s) = f s
  csum : ∀ v s, f (writeCsum v s) = f s

section
variable {α : Type} {f : State → α} (hf : ∀ s mpc phase, f { s with mpc := mpc, phase := phase } = f s)
include hf

theorem keeps_startFrame_or_raise (allowed : Bool) (c : Code) (s : State) :
    f (if allowed then startFrame s else raise c s) = f s := by
  cases allowed
  · exact hf s s.mpc (.finish c)
  · exact hf s 0 .frame

theorem keeps_nextRegister (hfold : OffFold f) (count : Nat) (s : State) : f (nextRegister count s) = f s := by
  rcases nextRegister_cases count s with ⟨-, h⟩ | ⟨-, h⟩ <;> rw [h]
  · exact hf s 0 .frame
  · exact (hf (holdIndex s) (holdIndex s).mpc (.finish .ok)).trans (hfold.hold s)

theorem keeps_illegalMicro : Keeps f illegalMicro where
  start s := hf s s.mpc _
  compute _ _ h := nomatch h
  commit _ := rfl

theorem keeps_writeMicro (a : Addr) (v : Half) : Keeps f (writeMicro a v) where
  start s := keeps_startFrame_or_raise hf _ _ s
  compute _ _ h := nomatch h
  commit _ := rfl

theorem keeps_frameReadMicro (a : Addr) : Keeps f (frameReadMicro a) where
  start s := keeps_startFrame_or_raise hf _ _ s
  compute _ _ h := nomatch h
  commit _ := rfl

theorem keeps_frameWriteMicro (a : Addr) (v : Half) : Keeps f (frameWriteMicro a v) where
  start s := keeps_startFrame_or_raise hf _ _ s
  compute _ _ h := nomatch h
  commit _ := rfl

theorem keeps_readMicro (hr : ∀ v s, f (writeRData v s) = f s) (a : Addr) : Keeps f (readMicro a) where
  start s := keeps_startFrame_or_raise hf _ _ s
  compute _ _ h := nomatch h
  commit s := hr _ s

theorem keeps_foldMicro (hfold : OffFold f) (base : Addr) (count : Nat) : Keeps f (foldMicro base count) where
  start s := (keeps_nextRegister hf hfold count _).trans (hfold.clear s)
  compute s t h := by
    obtain rfl : nextRegister count (accumulate s) = t := Option.some.inj h
    exact (keeps_nextRegister hf hfold count _).trans (hfold.accumulate s)
  commit s := hfold.csum _ s

theorem keeps_measMicro (hr : ∀ v s, f (writeRData v s) = f s) (hc : ∀ k p s, f (writeConv k p s) = f s)
    (k : Quantity) : Keeps f (measMicro k) where
  start s := hf s 0 .frame
  compute s t h := by
    obtain rfl : setPhase (.finish .ok) (storeMeasurement k s) = t := Option.some.inj h
    exact (hf _ (storeMeasurement k s).mpc _).trans ((hc _ _ _).trans (hr _ s))
  commit _ := rfl

theorem keeps_convMicro (hc : ∀ k p s, f (writeConv k p s) = f s) (k : Quantity) (r : Half) :
    Keeps f (convMicro k r) where
  start s := hf s s.mpc .compute
  compute s t h := by
    obtain rfl : setPhase (.finish .ok) (writeConv k (convert s.cfg r k) s) = t := Option.some.inj h
    exact (hf _ (writeConv k (convert s.cfg r k) s).mpc _).trans (hc _ _ s)
  commit _ := rfl

end

theorem writesRData_measInstr (k : Quantity) : writesRData (measInstr k) = true := by cases k <;> rfl

theorem writesConv_measInstr (k : Quantity) : writesConv (measInstr k) = true := by cases k <;> rfl

theorem writesConv_convInstr (r : Half) (k : Quantity) : writesConv (convInstr r k) = true := by
  cases k <;> simp [writesConv, convInstr, convTable]

/-- R29 for an instruction's own parts: what is none of the registers its row of the table names, they keep. -/
theorem keeps_microOf {α : Type} {f : State → α} (hf : ∀ s mpc phase, f { s with mpc := mpc, phase := phase } = f s)
    (i : Instr) : (writesRData i = true → ∀ v s, f (writeRData v s) = f s) →
    (writesConv i = true → ∀ k p s, f (writeConv k p s) = f s) → (writesCsum i = true → OffFold f) →
    Keeps f (microOf i) := by
  refine microOf_elim (P := fun i m => (writesRData i = true → ∀ v s, f (writeRData v s) = f s) →
    (writesConv i = true → ∀ k p s, f (writeConv k p s) = f s) → (writesCsum i = true → OffFold f) → Keeps f m)
    ?read ?write ?cs1 ?cs2 ?meas ?conv ?frameRead ?frameWrite i
  case read => exact fun a hr _ _ => keeps_readMicro hf (hr rfl) a
  case write => exact fun a v _ _ _ => keeps_writeMicro hf a v
  case cs1 => exact fun _ _ hfold => keeps_foldMicro hf (hfold rfl) _ _
  case cs2 => exact fun _ _ hfold => keeps_foldMicro hf (hfold rfl) _ _
  case meas => exact fun k hr hc _ => keeps_measMicro hf (hr (writesRData_measInstr k)) (hc (writesConv_measInstr k)) k
  case conv => exact fun r k _ hc _ => keeps_convMicro hf (hc (writesConv_convInstr r k)) k r
  case frameRead => exact fun a _ _ _ => keeps_frameReadMicro hf a
  case frameWrite => exact fun a v _ _ _ => keeps_frameWriteMicro hf a v

/-! ### What a run keeps -/

/-- What the parts of an instruction, a frame's steps and the end step keep, every step keeps. -/
theorem busyStep_kept {α : Type} {f : State → α} {m : Micro} (hk : Keeps f m)
    (hframe : ∀ s sel mpc hb lb replies ops phase, f { s with
      sel := sel, mpc := mpc, hb := hb, lb := lb, replies := replies, trace := s.trace ++ ops, phase := phase } = f s)
    (hend : ∀ c s, f (endCommand c s) = f s) {s t : State} (h : busyStep m s = some t) : f t = f s :=
  busyStep_keeps m (fun u => f u = f s) (fun u hu => (hk.start u).trans hu)
    (fun u v hu hv => (hk.compute u v hv).trans hu) (fun u hu => (hk.commit u).trans hu)
    (fun u c hu => (hend c u).trans hu) (fun u _ _ _ _ _ _ _ hu => (hframe u _ _ _ _ _ _ _).trans hu) s t rfl h

@[simp] theorem endCommand_resetIn (c : Code) (s : State) : (endCommand c s).resetIn = s.resetIn := by
  obtain ⟨code, done, history, h⟩ := endCommand_frame c s
  rw [h]

@[simp] theorem endCommand_port (c : Code) (s : State) : (endCommand c s).port = s.port := by
  obtain ⟨code, done, history, h⟩ := endCommand_frame c s
  rw [h]

@[simp] theorem endCommand_trace (c : Code) (s : State) : (endCommand c s).trace = s.trace := by
  obtain ⟨code, done, history, h⟩ := endCommand_frame c s
  rw [h]

@[simp] theorem endCommand_fidx (c : Code) (s : State) : (endCommand c s).fidx = s.fidx := by
  obtain ⟨code, done, history, h⟩ := endCommand_frame c s
  rw [h]

/-- No instruction's parts touch the reset input. -/
theorem busyStep_microOf_resetIn {i : Instr} {s t : State} (h : busyStep (microOf i) s = some t) :
    t.resetIn = s.resetIn :=
  busyStep_kept (keeps_microOf (f := State.resetIn) (fun _ _ _ => rfl) i (fun _ _ _ => rfl) (fun _ _ _ _ => rfl)
    (fun _ => ⟨fun _ => rfl, fun _ => rfl, fun _ => rfl, fun _ _ => rfl⟩)) (fun _ _ _ _ _ _ _ _ => rfl)
    endCommand_resetIn h

/-- With no reset coming: what acceptance and every step of an instruction keep, running it keeps. -/
theorem perform_microOf_keeps (r : Request) (i : Instr) (P : State → Prop) (ha : ∀ s, P s → P (accept r s))
    (hs : ∀ s t, P s → busyStep (microOf i) s = some t → P t) (s : State) (hn : s.resetIn = none) (h : P s) :
    P (perform r (microOf i) s) := by
  have hrun : ∀ u, u.resetIn = none → P u → P (drive (microOf i) maxSteps u) := fun u hu hP =>
    (drive_keeps_of_none (microOf i) P
      (fun u v hP hu hv => ⟨hs u v hP hv, (busyStep_microOf_resetIn hv).trans hu⟩) maxSteps u hP hu).1
  cases hst : s.st with
  | idle =>
    rw [perform_idle r _ s hst hn]
    exact hrun _ (by cases r <;> exact hn) (ha s h)
  | busy =>
    rw [perform_busy r _ s hst]
    exact hrun s hn h

/-- Settles O35: no part of an instruction, no step of a frame and no reset touches what the host presents, and a busy
block accepts nothing. -/
theorem busyTakesNoCommand : Obligations.BusyTakesNoCommand := by
  intro s t hbusy h
  have hoff : OffFold State.port := ⟨fun _ => rfl, fun _ => rfl, fun _ => rfl, fun _ _ => rfl⟩
  have hrun : ∀ r m, Keeps State.port m → (perform r m s).port = s.port := fun r m hk => by
    rw [perform_busy r m s hbusy]
    exact drive_keeps m (fun u => u.port = s.port) (fun u hu => hu) (fun u hu => hu)
      (fun u v hu hv => (busyStep_kept hk (fun _ _ _ _ _ _ _ _ => rfl) endCommand_port hv).trans hu) _ s rfl
  obtain ⟨-, ⟨hnone, -⟩ | ⟨r, -, ⟨i, -, rfl⟩ | ⟨e, -, rfl⟩⟩⟩ := step_cases h
  · simp [currentRequest, hbusy] at hnone
  · exact hrun _ _ (keeps_microOf (fun _ _ _ => rfl) i (fun _ _ _ => rfl) (fun _ _ _ _ => rfl) fun _ => hoff)
  · exact hrun _ _ (keeps_illegalMicro fun _ _ _ => rfl)

/-- Settles O38: only a frame's steps write the trace, and they append. -/
theorem traceOnlyGrows : Obligations.TraceOnlyGrows := by
  intro i s t hn h
  obtain rfl : perform (encode i) (microOf i) s = t := by simpa [exec_eq] using h
  have hk : Keeps State.trace (microOf i) :=
    keeps_microOf (fun _ _ _ => rfl) i (fun _ _ _ => rfl) (fun _ _ _ _ => rfl)
      fun _ => ⟨fun _ => rfl, fun _ => rfl, fun _ => rfl, fun _ _ => rfl⟩
  refine perform_microOf_keeps _ i (fun u => ∃ ops, u.trace = s.trace ++ ops) ?accept ?step s hn ⟨[], by simp⟩
  case accept =>
    intro u hu
    cases hr : encode i <;> exact hu
  case step =>
    refine busyStep_keeps _ _ (fun u hu => ?_) (fun u v hu hv => ?_) (fun u hu => ?_) (fun u c hu => ?_) ?_
    · rwa [hk.start]
    · rwa [hk.compute u v hv]
    · rwa [hk.commit]
    · rwa [endCommand_trace]
    · rintro u _ _ _ _ _ more _ ⟨ops, hu⟩
      exact ⟨ops ++ more, by simp [hu]⟩

/-- `f` looks at none of the registers that acceptance, a frame or the end step writes. -/
def OffRun {α : Type} (f : State → α) : Prop :=
  ∀ s st cmd sel mpc hb lb code done trace port replies phase wire history, f { s with
    st := st, cmd := cmd, sel := sel, mpc := mpc, hb := hb, lb := lb, code := code, done := done, trace := trace,
    port := port, replies := replies, phase := phase, wire := wire, history := history } = f s

section
variable {α : Type} {f : State → α} (hf : OffRun f)
include hf

theorem OffRun.accept (r : Request) (s : State) : f (accept r s) = f s := by
  cases r
  · exact hf s .busy _ s.sel s.mpc s.hb s.lb s.code false s.trace s.port.tail s.replies .decode none s.history
  · exact hf s .busy s.cmd s.sel s.mpc s.hb s.lb s.code s.done s.trace s.port.tail s.replies .decode _ s.history

theorem OffRun.phase (s : State) (mpc : Fin 10) (phase : Phase) : f { s with mpc := mpc, phase := phase } = f s :=
  hf s s.st s.cmd s.sel mpc s.hb s.lb s.code s.done s.trace s.port s.replies phase s.wire s.history

theorem OffRun.busyStep {m : Micro} (hk : Keeps f m) {s t : State} (h : busyStep m s = some t) : f t = f s := by
  refine busyStep_kept hk (fun u sel mpc hb lb replies ops phase => ?_) (fun c u => ?_) h
  · exact hf u u.st u.cmd sel mpc hb lb u.code u.done (u.trace ++ ops) u.port replies phase u.wire u.history
  · obtain ⟨code, done, history, hu⟩ := endCommand_frame c u
    rw [hu]
    exact hf u .idle u.cmd u.sel 0 u.hb u.lb code done u.trace u.port u.replies .decode none history

/-- R29 for a whole run: the registers an instruction does not name are kept, whatever becomes of it. -/
theorem OffRun.exec {i : Instr} (hr : writesRData i = true → ∀ v s, f (writeRData v s) = f s)
    (hc : writesConv i = true → ∀ k p s, f (writeConv k p s) = f s) (hs : writesCsum i = true → OffFold f)
    {s t : State} (hn : s.resetIn = none) (h : exec i s = .next t) : f t = f s := by
  obtain rfl : perform (encode i) (microOf i) s = t := by simpa [exec_eq] using h
  exact perform_microOf_keeps _ i (fun u => f u = f s) (fun u hu => (hf.accept _ u).trans hu)
    (fun u v hu hv => (hf.busyStep (keeps_microOf hf.phase i hr hc hs) hv).trans hu) s hn rfl

end

/-- RDATA with its valid bit (R26). -/
def rdataGroup (s : State) : Half × Bool := (s.rdata, s.rdataValid)

/-- The converter's registers with their valid bit (R26). -/
def convGroup (s : State) : Int × Nat × BitVec 4 × Bool := (s.convM, s.convD, s.convQ, s.convValid)

/-- CSUM with its valid bit, and the registers of a fold in progress (R23, R25, R26). -/
def csumGroup (s : State) : Half × Bool × Byte × Byte × BitVec 4 := (s.csum, s.csumValid, s.sum8, s.xor8, s.fidx)

/-- Settles O36: each group of registers is written only by its own instructions' parts; the shared operations write
none of the three. -/
theorem resultRegistersOfOthersKept : Obligations.ResultRegistersOfOthersKept := by
  intro i s t hn h
  have offRData : OffRun rdataGroup := by unfold OffRun; intros; rfl
  have offConv : OffRun convGroup := by unfold OffRun; intros; rfl
  have offCsum : OffRun csumGroup := by unfold OffRun; intros; rfl
  have rdata (hi : writesRData i = false) : rdataGroup t = rdataGroup s :=
    offRData.exec (by simp [hi]) (fun _ _ _ _ => rfl)
      (fun _ => ⟨fun _ => rfl, fun _ => rfl, fun _ => rfl, fun _ _ => rfl⟩) hn h
  have conv (hi : writesConv i = false) : convGroup t = convGroup s :=
    offConv.exec (fun _ _ _ => rfl) (by simp [hi])
      (fun _ => ⟨fun _ => rfl, fun _ => rfl, fun _ => rfl, fun _ _ => rfl⟩) hn h
  have csum (hi : writesCsum i = false) : csumGroup t = csumGroup s :=
    offCsum.exec (fun _ _ _ => rfl) (fun _ _ _ _ => rfl) (by simp [hi]) hn h
  simp only [rdataGroup, convGroup, csumGroup, Prod.mk.injEq] at rdata conv csum
  refine ⟨rdata, fun hi => ?_, conv, fun hi => ?_⟩
  · obtain ⟨hcsum, hvalid, -⟩ := csum hi
    exact ⟨hcsum, hvalid⟩
  · obtain ⟨-, -, hfold⟩ := csum hi
    exact hfold

/-! ### An accepted command and its end -/

/-- What an accepted command leaves alone until its end step: acceptance set it, the end step writes it. -/
def commandGroup (s : State) :
    RunState × Word × List Request × Option Nat × Option (Byte × Half) × Code × Bool × List Event :=
  (s.st, s.cmd, s.port, s.resetIn, s.wire, s.code, s.done, s.history)

/-- The command `w`, accepted from `s` with `rest` left at the port, is in progress in `u` (R35). -/
def InProgress (s : State) (w : Word) (rest : List Request) (u : State) : Prop :=
  commandGroup u = (.busy, w, rest, none, none, s.code, false, s.history)

/-- The command `w`, accepted from `s` with `rest` left at the port, has ended in `t` with the code `c` (R36, R146). -/
structure Ended (s : State) (w : Word) (rest : List Request) (c : Code) (t : State) : Prop where
  idle : t.st = .idle
  cmd : t.cmd = w
  port : t.port = rest
  mpc : t.mpc = 0
  code : t.code = c
  done : t.done = true
  history : t.history = s.history ++ [⟨w, c, csumOf t⟩]

theorem keeps_commandGroup {m : Micro} (h : m = illegalMicro ∨ ∃ i, m = microOf i) : Keeps commandGroup m := by
  obtain rfl | ⟨i, rfl⟩ := h
  · exact keeps_illegalMicro fun _ _ _ => rfl
  · exact keeps_microOf (fun _ _ _ => rfl) i (fun _ _ _ => rfl) (fun _ _ _ _ => rfl)
      fun _ => ⟨fun _ => rfl, fun _ => rfl, fun _ => rfl, fun _ _ => rfl⟩

theorem inProgress_accept {s : State} {w : Word} {rest : List Request} (hn : s.resetIn = none)
    (hport : s.port = .command w :: rest) : InProgress s w rest (accept (.command w) s) := by
  simp [InProgress, commandGroup, accept, clearDone, hn, hport]

theorem endCommand_of_command (c : Code) (s : State) (h : s.wire = none) :
    endCommand c s = toIdle (writeStatus c s) := by simp [endCommand, h]

section
variable {s u v : State} {w : Word} {rest : List Request} {m : Micro}

theorem InProgress.fields (h : InProgress s w rest u) : u.st = .busy ∧ u.cmd = w ∧ u.port = rest ∧ u.resetIn = none ∧
    u.wire = none ∧ u.code = s.code ∧ u.done = false ∧ u.history = s.history := by
  simpa [InProgress, commandGroup] using h

theorem InProgress.st (h : InProgress s w rest u) : u.st = .busy := h.fields.1

theorem InProgress.resetIn (h : InProgress s w rest u) : u.resetIn = none := by
  obtain ⟨-, -, -, hn, -⟩ := h.fields
  exact hn

/-- The end step of a command in progress (R36). -/
theorem InProgress.ends (h : InProgress s w rest u) (c : Code) : Ended s w rest c (endCommand c u) := by
  obtain ⟨-, hcmd, hport, -, hwire, -, -, hhist⟩ := h.fields
  rw [endCommand_of_command c u hwire]
  exact ⟨rfl, hcmd, hport, rfl, rfl, rfl, by simp [toIdle, writeStatus, csumReading, csumOf, hcmd, hhist]⟩

/-- A step of a command in progress leaves it in progress, unless it is its end step. -/
theorem InProgress.busyStep (hk : Keeps commandGroup m) (h : InProgress s w rest u) (hs : busyStep m u = some v) :
    ((∀ c, u.phase ≠ .finish c) ∧ InProgress s w rest v) ∨
      ∃ c, u.phase = .finish c ∧ v = endCommand c (if c = .ok then m.commit u else u) := by
  have goesOn : ∀ p, u.phase = p → (∀ c, p ≠ .finish c) → commandGroup v = commandGroup u →
      (∀ c, u.phase ≠ .finish c) ∧ InProgress s w rest v := fun p hp hne hv => ⟨hp ▸ hne, hv.trans h⟩
  rcases busyStep_cases hs with ⟨hp, rfl⟩ | ⟨hp, f, -, hf⟩ | ⟨hp, rfl⟩ | ⟨hp, hc⟩ | ⟨hp, rfl⟩ | ⟨c, hc, hp, rfl⟩
  · exact .inl (goesOn _ hp nofun (hk.start u))
  · obtain ⟨sel, mpc, hb, lb, replies, ops, phase, rfl⟩ := frameStep_frame hf
    exact .inl (goesOn _ hp nofun rfl)
  · exact .inl (goesOn _ hp nofun rfl)
  · exact .inl (goesOn _ hp nofun (hk.compute u v hc))
  · exact .inr ⟨.ok, hp, by simp⟩
  · exact .inr ⟨c, hp, by simp [hc]⟩

theorem InProgress.commit (hk : Keeps commandGroup m) (h : InProgress s w rest u) : InProgress s w rest (m.commit u) :=
  (hk.commit u).trans h

end

/-- A step of a ready block to which a command is presented leaves it in progress, or has ended it. -/
theorem step_command_inProgress_or_ended {s t : State} {w : Word} {rest : List Request} (hready : Ready s)
    (hport : s.port = .command w :: rest) (h : step s = .next t) :
    InProgress s w rest t ∨ ∃ c, Ended s w rest c t := by
  obtain ⟨m, hm, rfl⟩ := step_command hready hport h
  have hk := keeps_commandGroup hm
  refine drive_to m (InProgress s w rest) (fun v => ∃ c, Ended s w rest c v) (fun u hu => hu.resetIn)
    (fun u v hu hv => ?_) _ _ (inProgress_accept hready.2 hport)
  rcases hu.busyStep hk hv with ⟨-, hv⟩ | ⟨c, -, rfl⟩
  · exact .inl ⟨hv.st, hv⟩
  · have hend : Ended s w rest c (endCommand c (if c = .ok then m.commit u else u)) := by
      split
      · exact (hu.commit hk).ends c
      · exact hu.ends c
    exact .inr ⟨hend.idle, c, hend⟩

/-- Settles O34: a command in progress has reported nothing, and its end step reports once. -/
theorem commandEndsWithOneStatus : Obligations.CommandEndsWithOneStatus := by
  intro s t w rest hready hport h
  rcases step_command_inProgress_or_ended hready hport h with hrun | ⟨c, hend⟩
  · obtain ⟨hst, hcmd, hrest, -, -, hcode, hdone, hhist⟩ := hrun.fields
    exact ⟨hrest, hcmd, fun hidle => absurd (hst.symm.trans hidle) (by decide), fun _ => ⟨hdone, hcode, hhist⟩⟩
  · refine ⟨hend.port, hend.cmd, fun _ => ⟨hend.done, hend.mpc, ?_⟩,
      fun hbusy => absurd (hend.idle.symm.trans hbusy) (by decide)⟩
    rw [hend.code]
    exact hend.history

/-! ### Errors and results -/

/-- The order in which an instruction comes to its end: its start writes no result and leaves SEL; a frame that
completes goes to the accumulation or conversion or to the end in OK; a result is written there on the way to OK only
(R29, R76, R145). -/
structure ResultsOnSuccessOnly (m : Micro) : Prop where
  start : ∀ s, (m.start s).sel = s.sel ∧ results (m.start s) = results s
  afterFrame : m.afterFrame = .compute ∨ m.afterFrame = .finish .ok
  compute : ∀ s t, m.compute s = some t → t.phase = .finish .ok ∨ (t.phase = .frame ∧ results t = results s)

theorem startFrame_or_raise_results (allowed : Bool) (c : Code) (s : State) :
    (if allowed then startFrame s else raise c s).sel = s.sel ∧
      results (if allowed then startFrame s else raise c s) = results s := by
  cases allowed <;> exact ⟨rfl, rfl⟩

theorem nextRegister_results (count : Nat) (s : State) : (nextRegister count s).sel = s.sel ∧
    results (nextRegister count s) = results s ∧
    ((nextRegister count s).phase = .finish .ok ∨ (nextRegister count s).phase = .frame) := by
  rcases nextRegister_cases count s with ⟨-, h⟩ | ⟨-, h⟩ <;> rw [h]
  · exact ⟨rfl, rfl, .inr rfl⟩
  · exact ⟨rfl, rfl, .inl rfl⟩

theorem resultsOnSuccessOnly_foldMicro (base : Addr) (count : Nat) : ResultsOnSuccessOnly (foldMicro base count) where
  start s := by
    obtain ⟨hsel, hres, -⟩ := nextRegister_results count (clearFold s)
    exact ⟨hsel, hres⟩
  afterFrame := .inl rfl
  compute s t h := by
    obtain rfl : nextRegister count (accumulate s) = t := Option.some.inj h
    obtain ⟨-, hres, hend | hnext⟩ := nextRegister_results count (accumulate s)
    · exact .inl hend
    · exact .inr ⟨hnext, hres⟩

theorem resultsOnSuccessOnly_microOf : ∀ i, ResultsOnSuccessOnly (microOf i) := by
  refine microOf_elim (P := fun _ m => ResultsOnSuccessOnly m)
    ?read ?write ?cs1 ?cs2 ?meas ?conv ?frameRead ?frameWrite
  case read => exact fun a => ⟨startFrame_or_raise_results _ _, .inr rfl, fun _ _ h => nomatch h⟩
  case write => exact fun a v => ⟨startFrame_or_raise_results _ _, .inr rfl, fun _ _ h => nomatch h⟩
  case cs1 => exact resultsOnSuccessOnly_foldMicro _ _
  case cs2 => exact resultsOnSuccessOnly_foldMicro _ _
  case meas => exact fun k => ⟨fun _ => ⟨rfl, rfl⟩, .inl rfl, fun _ _ h => .inl (Option.some.inj h ▸ rfl)⟩
  case conv => exact fun r k => ⟨fun _ => ⟨rfl, rfl⟩, .inl rfl, fun _ _ h => .inl (Option.some.inj h ▸ rfl)⟩
  case frameRead => exact fun a => ⟨startFrame_or_raise_results _ _, .inr rfl, fun _ _ h => nomatch h⟩
  case frameWrite => exact fun a v => ⟨startFrame_or_raise_results _ _, .inr rfl, fun _ _ h => nomatch h⟩

theorem resultsOnSuccessOnly_illegalMicro : ResultsOnSuccessOnly illegalMicro where
  start _ := ⟨rfl, rfl⟩
  afterFrame := .inr rfl
  compute _ _ h := nomatch h

/-- Before the end in OK nothing of the results of `s` is written, and SEL is 0 wherever an error may be raised. -/
structure NoResultYet (s u : State) : Prop where
  results : u.phase ≠ .finish .ok → results u = results s
  selAtDecode : u.phase = .decode → u.sel = false
  selAtError : ∀ c, c ≠ .ok → u.phase = .finish c → u.sel = false

/-- How far a step of a frame comes (R75, R76): on in the frame, to the abort from an exchange, or to what follows. -/
theorem frameStep_progress {f : Frame} {p : Phase} {s t : State} (hp : s.phase = .frame)
    (h : frameStep f p s = some t) : (t.phase = .frame ∧ s.mpc.val < t.mpc.val) ∨
      (t.phase = .abort ∧ s.mpc.val ≤ 6) ∨ (t.phase = p ∧ 8 ≤ s.mpc.val) := by
  rcases frameStep_cases h with ⟨hm, rfl⟩ | ⟨hm, rfl⟩ | ⟨hm, b, rest, -, rfl⟩ | ⟨hm, rfl⟩ | ⟨hm, b, rest, -, rfl⟩ |
    ⟨hm, rfl⟩ | ⟨hm, b, rest, -, rfl⟩ | ⟨hm, rfl⟩ | ⟨hm, -, rfl⟩ | ⟨hm, -, rfl⟩ | ⟨hm, rfl⟩ | ⟨out, rest, hm, -, rfl⟩
  case inr.inr.inr.inr.inl => exact .inl ⟨hp, by rw [hm, setMpc_mpc]; split <;> decide⟩
  case inr.inr.inr.inr.inr.inl => exact .inl ⟨by rw [setMpc_phase]; split <;> exact hp, by simp [hm]⟩
  case inr.inr.inr.inr.inr.inr.inr.inr.inr.inl => exact .inr (.inr ⟨rfl, by simp [hm]⟩)
  case inr.inr.inr.inr.inr.inr.inr.inr.inr.inr.inl => exact .inr (.inr ⟨rfl, by simp [hm]⟩)
  case inr.inr.inr.inr.inr.inr.inr.inr.inr.inr.inr =>
    refine .inr (.inl ⟨rfl, ?_⟩)
    rcases hm with ⟨hm, -⟩ | ⟨hm, -⟩ | ⟨hm, -⟩ <;> simp [hm]
  all_goals exact .inl ⟨by simp [hp], by simp [hm]⟩

theorem frameStep_results {f : Frame} {p : Phase} {s t : State} (h : frameStep f p s = some t) :
    results t = results s := by
  obtain ⟨sel, mpc, hb, lb, replies, ops, phase, rfl⟩ := frameStep_frame h
  rfl

theorem endCommand_results (c : Code) (s : State) :
    results (endCommand c s) = results s ∧ (endCommand c s).sel = s.sel := by
  obtain ⟨code, done, history, h⟩ := endCommand_frame c s
  rw [h]
  exact ⟨rfl, rfl⟩

/-- A step that does not end the command keeps the results of `s` until the end in OK is next. -/
theorem NoResultYet.busyStep {m : Micro} (hm : ResultsOnSuccessOnly m) {s u v : State} (h : NoResultYet s u)
    (hend : ∀ c, u.phase ≠ .finish c) (hs : busyStep m u = some v) : NoResultYet s v := by
  have hres : Expect.results u = Expect.results s := h.results (hend .ok)
  rcases busyStep_cases hs with ⟨hp, rfl⟩ | ⟨hp, f, -, hf⟩ | ⟨-, rfl⟩ | ⟨-, hc⟩ | ⟨hp, -⟩ | ⟨c, -, hp, -⟩
  · obtain ⟨hsel, hstart⟩ := hm.start u
    have hlow : (m.start u).sel = false := hsel.trans (h.selAtDecode hp)
    exact ⟨fun _ => hstart.trans hres, fun _ => hlow, fun _ _ _ => hlow⟩
  · have hphase : v.phase = .frame ∨ v.phase = .abort ∨ v.phase = .compute ∨ v.phase = .finish .ok := by
      rcases frameStep_progress hp hf with ⟨hv, -⟩ | ⟨hv, -⟩ | ⟨hv, -⟩
      · exact .inl hv
      · exact .inr (.inl hv)
      · exact .inr (.inr (hm.afterFrame.imp hv.trans hv.trans))
    refine ⟨fun _ => (frameStep_results hf).trans hres, fun hv => ?_, fun c hc hv => ?_⟩ <;> simp_all
  · exact ⟨fun _ => hres, fun _ => rfl, fun _ _ _ => rfl⟩
  · rcases hm.compute u v hc with hv | ⟨hv, hkeep⟩
    · refine ⟨fun hne => absurd hv hne, fun hd => ?_, fun c hc hd => ?_⟩ <;> simp_all
    · refine ⟨fun _ => hkeep.trans hres, fun hd => ?_, fun c hc hd => ?_⟩ <;> simp_all
  · exact absurd hp (hend .ok)
  · exact absurd hp (hend c)

/-- Settles O37: up to an error nothing of the results is written and SEL is 0, and the end step of an error commits
nothing; that the block is then IDLE with its status is O34's. -/
theorem errorsWriteNoResult : Obligations.ErrorsWriteNoResult := by
  intro s t w rest hready hsel hport h hidle herror
  obtain ⟨-, -, hstatus, -⟩ := commandEndsWithOneStatus s t w rest hready hport h
  obtain ⟨hdone, hmpc, -⟩ := hstatus hidle
  obtain ⟨m, hm, rfl⟩ := step_command hready hport h
  have hk := keeps_commandGroup hm
  have horder : ResultsOnSuccessOnly m := by
    obtain rfl | ⟨i, rfl⟩ := hm
    · exact resultsOnSuccessOnly_illegalMicro
    · exact resultsOnSuccessOnly_microOf i
  have hrun := drive_to m (fun u => InProgress s w rest u ∧ NoResultYet s u)
    (fun v => v.code ≠ .ok → results v = results s ∧ v.sel = false) (fun u ⟨hu, _⟩ => hu.resetIn)
    (fun u v ⟨hu, hno⟩ hv => ?_) maxSteps (accept (.command w) s)
    ⟨inProgress_accept hready.2 hport, fun _ => rfl, fun _ => hsel, fun _ _ _ => hsel⟩
  · rcases hrun with ⟨hbusy, -⟩ | hend
    · exact absurd (hbusy.st.symm.trans hidle) (by decide)
    · obtain ⟨hres, hlow⟩ := hend herror
      exact ⟨hres, hlow, hmpc, hdone⟩
  · rcases hu.busyStep hk hv with ⟨hne, hprog⟩ | ⟨c, hp, rfl⟩
    · exact .inl ⟨hprog.st, hprog, hno.busyStep horder hne hv⟩
    · by_cases hc : c = .ok
      · have hend := (hu.commit hk).ends .ok
        subst hc
        exact .inr ⟨hend.idle, fun hne => absurd hend.code hne⟩
      · obtain ⟨hres, hlow⟩ := endCommand_results c u
        rw [if_neg hc]
        exact .inr ⟨(hu.ends c).idle, fun _ =>
          ⟨hres.trans (hno.results (by simpa [hp] using hc)), hlow.trans (hno.selAtError c hc hp)⟩⟩

/-! ### The range of FIDX -/

/-- The address of a fold's frame as a number (R23, R85). -/
theorem foldAddr_eq (base : Addr) (s : State) : foldAddr base s = BitVec.ofNat 7 (base.toNat + s.fidx.toNat) := by
  have hi := s.fidx.isLt
  apply BitVec.eq_of_toNat_eq
  simp only [foldAddr, BitVec.toNat_add, BitVec.truncate_eq_setWidth, BitVec.toNat_setWidth, BitVec.toNat_ofNat]
  omega

theorem nextRegister_fidx_le {count : Nat} (hcount : count ≤ 11) (s : State) :
    (nextRegister count s).fidx.toNat ≤ 10 := by
  rcases nextRegister_cases count s with ⟨hlt, h⟩ | ⟨-, h⟩ <;> rw [h]
  · rw [startFrame_fidx]
    omega
  · exact holdIndex_fidx_le s

/-- The parts an instruction supplies leave FIDX within R23's values. -/
structure BoundsIndex (m : Micro) : Prop where
  start : ∀ s, s.fidx.toNat ≤ 10 → (m.start s).fidx.toNat ≤ 10
  compute : ∀ s t, s.fidx.toNat ≤ 10 → m.compute s = some t → t.fidx.toNat ≤ 10
  commit : ∀ s, s.fidx.toNat ≤ 10 → (m.commit s).fidx.toNat ≤ 10

theorem Keeps.boundsIndex {m : Micro} (h : Keeps State.fidx m) : BoundsIndex m where
  start s hs := by rwa [h.start s]
  compute s t hs ht := by rwa [h.compute s t ht]
  commit s hs := by rwa [h.commit s]

theorem boundsIndex_foldMicro (base : Addr) {count : Nat} (hcount : count ≤ 11) :
    BoundsIndex (foldMicro base count) where
  start s _ := nextRegister_fidx_le hcount (clearFold s)
  compute s t _ ht := by
    obtain rfl : nextRegister count (accumulate s) = t := Option.some.inj ht
    exact nextRegister_fidx_le hcount (accumulate s)
  commit s hs := by simpa [foldMicro] using hs

theorem boundsIndex_microOf (i : Instr) : BoundsIndex (microOf i) := by
  cases hi : writesCsum i
  · exact (keeps_microOf (f := State.fidx) (fun _ _ _ => rfl) i (fun _ _ _ => rfl) (fun _ _ _ _ => rfl)
      (by simp [hi])).boundsIndex
  · obtain rfl | rfl : i = .cs1 ∨ i = .cs2 := by simpa [writesCsum] using hi
    · exact boundsIndex_foldMicro cs1Base (by decide)
    · exact boundsIndex_foldMicro cs2Base (by decide)

theorem perform_fidx_le {m : Micro} (hm : BoundsIndex m) (r : Request) (s : State) (h : s.fidx.toNat ≤ 10) :
    (perform r m s).fidx.toNat ≤ 10 :=
  perform_keeps r m (fun u => u.fidx.toNat ≤ 10) (fun _ _ => Nat.zero_le _) (fun _ hu => hu)
    (fun u _ hu => by cases r <;> exact hu)
    (busyStep_keeps m _ hm.start hm.compute hm.commit (fun u c hu => by rwa [endCommand_fidx])
      (fun _ _ _ _ _ _ _ _ hu => hu)) s h

/-- What a fold's frame sends, and from where, while FIDX is below the count (R65, R88). -/
theorem send_foldMicro (base : Addr) (count : Nat) (s : State) : (foldMicro base count).send s =
    some (readFrame s.cfg (BitVec.ofNat 7 (base.toNat + s.fidx.toNat))) := by
  rw [← foldAddr_eq]; rfl

/-- Settles O46: the loop's test keeps FIDX in range, and the invariant's `mayFrame` has it below the count while a
frame is in progress. -/
theorem foldIndexStaysInRange : Obligations.FoldIndexStaysInRange := by
  refine ⟨fun s t hs h => ?step, fun s => ⟨fun hi => ?cs1, fun hi => ?cs2⟩, fun s hinv hframe => ?inv⟩
  case step =>
    obtain ⟨-, ⟨-, rfl⟩ | ⟨r, -, ⟨i, -, rfl⟩ | ⟨e, -, rfl⟩⟩⟩ := step_cases h
    · unfold waitIdle
      split
      · exact Nat.zero_le _
      · exact hs
    · exact perform_fidx_le (boundsIndex_microOf i) _ s hs
    · exact perform_fidx_le (keeps_illegalMicro fun _ _ _ => rfl).boundsIndex r s hs
  case cs1 =>
    have hbase : cs1Base.toNat = 0x21 := rfl
    rw [foldAddr_eq, BitVec.toNat_ofNat, hbase]
    omega
  case cs2 =>
    have hbase : cs2Base.toNat = 0x31 := rfl
    rw [foldAddr_eq, BitVec.toNat_ofNat, hbase]
    omega
  case inv =>
    obtain ⟨-, -, hphase, -⟩ := hinv
    have hmay : ∀ i, currentInstr s = some i → mayFrame s.fidx i = true := fun i hi => by
      simpa [phaseFits, hframe, hi] using hphase
    refine ⟨fun hi => ⟨?_, send_foldMicro _ _ s⟩, fun hi => ⟨?_, send_foldMicro _ _ s⟩⟩
    · have hlt : s.fidx.toNat < cs1Count := of_decide_eq_true (hmay _ hi)
      exact Nat.le_of_lt_succ hlt
    · have hlt : s.fidx.toNat < cs2Count := of_decide_eq_true (hmay _ hi)
      exact Nat.le_of_lt_succ hlt

/-! ### A run comes to its end or waits -/

/-- The phase is one the instruction can be in: `Safety.phaseFits` for an instruction that is given. -/
def PhaseOf (i : Instr) (s : State) : Prop :=
  match s.phase with
  | .frame => mayFrame s.fidx i = true
  | .compute => mayCompute s.fidx i = true
  | .decode | .abort | .finish _ => True

/-- The frames still to complete, the one in progress included. -/
def framesLeft (fidx : BitVec 4) : Instr → Nat
  | .cs1 => cs1Count - fidx.toNat
  | .cs2 => cs2Count - fidx.toNat
  | _ => 1

/-- A bound on the steps to the end: 12 for a frame and what follows it (R75, R85), the end step, and the decode step
before the 11 frames of CS1 (R150). -/
def stepsLeft (i : Instr) (s : State) : Nat :=
  match s.phase with
  | .decode => 134
  | .frame => 12 * framesLeft s.fidx i + 1 - s.mpc.val
  | .compute => 12 * framesLeft s.fidx i - 9
  | .abort => 2
  | .finish _ => 1

section
variable {i : Instr} {s : State}

theorem phaseOf_frame (h : s.phase = .frame) : PhaseOf i s ↔ mayFrame s.fidx i = true := by simp [PhaseOf, h]

theorem phaseOf_compute (h : s.phase = .compute) : PhaseOf i s ↔ mayCompute s.fidx i = true := by simp [PhaseOf, h]

theorem phaseOf_finish {c : Code} (h : s.phase = .finish c) : PhaseOf i s := by simp [PhaseOf, h]

theorem stepsLeft_frame (h : s.phase = .frame) : stepsLeft i s = 12 * framesLeft s.fidx i + 1 - s.mpc.val := by
  simp [stepsLeft, h]

theorem stepsLeft_compute (h : s.phase = .compute) : stepsLeft i s = 12 * framesLeft s.fidx i - 9 := by
  simp [stepsLeft, h]

theorem stepsLeft_decode (h : s.phase = .decode) : stepsLeft i s = 134 := by simp [stepsLeft, h]

theorem stepsLeft_abort (h : s.phase = .abort) : stepsLeft i s = 2 := by simp [stepsLeft, h]

theorem stepsLeft_finish {c : Code} (h : s.phase = .finish c) : stepsLeft i s = 1 := by simp [stepsLeft, h]

end

/-- The parts an instruction supplies take it to a phase of its own, with at most `n` steps left. -/
def Within (i : Instr) (n : Nat) (s : State) : Prop := PhaseOf i s ∧ stepsLeft i s ≤ n

/-- What an instruction's parts owe to a run that comes to its end: in the phases that are the instruction's they
answer, and each takes it nearer to the end. -/
structure RunsDown (i : Instr) (m : Micro) : Prop where
  start : ∀ s, Within i 133 (m.start s)
  send : ∀ s, mayFrame s.fidx i = true → ∃ f, m.send s = some f
  afterFrame : (m.afterFrame = .compute ∧ ∀ fidx, mayFrame fidx i = true → mayCompute fidx i = true) ∨
    m.afterFrame = .finish .ok
  compute : ∀ s, mayCompute s.fidx i = true →
    ∃ t, m.compute s = some t ∧ Within i (12 * framesLeft s.fidx i - 10) t
  framesLeft : ∀ fidx, mayFrame fidx i = true ∨ mayCompute fidx i = true → 1 ≤ framesLeft fidx i

/-- An instruction of one checked frame and no conversion: READ, WRITE and the bare frames. -/
theorem runsDown_of_checkedFrame (i : Instr) (m : Micro) (allowed : Bool) (hframes : ∀ fidx, framesLeft fidx i = 1)
    (hframe : ∀ fidx, mayFrame fidx i = allowed) (hcompute : ∀ fidx, mayCompute fidx i = false)
    (hstart : ∀ s, m.start s = if allowed then startFrame s else raise .invalidAddress s)
    (hsend : ∀ s, ∃ f, m.send s = some f) (hafter : m.afterFrame = .finish .ok) : RunsDown i m where
  start s := by
    rw [hstart]
    cases allowed
    · exact ⟨phaseOf_finish rfl, by rw [if_neg (by decide), stepsLeft_finish rfl]; decide⟩
    · exact ⟨(phaseOf_frame rfl).2 (hframe _), by rw [if_pos rfl, stepsLeft_frame rfl, hframes]; simp⟩
  send s _ := hsend s
  afterFrame := .inr hafter
  compute s hs := by simp [hcompute] at hs
  framesLeft fidx _ := by rw [hframes]

/-- The loop's test goes on to a frame within the count, or to the end (R85). -/
theorem nextRegister_within {i : Instr} {count : Nat} (hmay : ∀ fidx, mayFrame fidx i = decide (fidx.toNat < count))
    (hframes : ∀ fidx, framesLeft fidx i = count - fidx.toNat) (s : State) :
    Within i (12 * (count - s.fidx.toNat) + 1) (nextRegister count s) := by
  rcases nextRegister_cases count s with ⟨hlt, h⟩ | ⟨-, h⟩ <;> rw [h]
  · exact ⟨(phaseOf_frame rfl).2 (by rw [hmay]; exact decide_eq_true hlt),
      by rw [stepsLeft_frame rfl, hframes]; exact Nat.sub_le _ _⟩
  · exact ⟨phaseOf_finish rfl, by rw [stepsLeft_finish rfl]; omega⟩

theorem runsDown_foldMicro {i : Instr} {count : Nat} (base : Addr) (hcount : count ≤ 11)
    (hframe : ∀ fidx, mayFrame fidx i = decide (fidx.toNat < count))
    (hcompute : ∀ fidx, mayCompute fidx i = decide (fidx.toNat < count))
    (hframes : ∀ fidx, framesLeft fidx i = count - fidx.toNat) : RunsDown i (foldMicro base count) where
  start s := by
    obtain ⟨hphase, hleft⟩ := nextRegister_within hframe hframes (clearFold s)
    exact ⟨hphase, hleft.trans (by rw [clearFold_fidx]; simp; omega)⟩
  send s _ := ⟨_, rfl⟩
  afterFrame := .inl ⟨rfl, fun fidx h => by rw [hcompute, ← hframe]; exact h⟩
  compute s hs := by
    obtain ⟨hphase, hleft⟩ := nextRegister_within hframe hframes (accumulate s)
    refine ⟨_, rfl, hphase, hleft.trans ?_⟩
    have hlt : s.fidx.toNat < count := of_decide_eq_true ((hcompute _).symm.trans hs)
    have hnext : (accumulate s).fidx.toNat = s.fidx.toNat + 1 := by
      rw [accumulate_fidx, BitVec.toNat_add]
      exact Nat.mod_eq_of_lt (by simp; omega)
    rw [hnext, hframes]
    omega
  framesLeft fidx h := by
    simp only [hframe, hcompute, or_self, decide_eq_true_eq] at h
    rw [hframes]
    omega

theorem framesLeft_measInstr (fidx : BitVec 4) (k : Quantity) : framesLeft fidx (measInstr k) = 1 := by cases k <;> rfl

theorem framesLeft_convInstr (fidx : BitVec 4) (r : Half) (k : Quantity) : framesLeft fidx (convInstr r k) = 1 := by
  cases k <;> rfl

theorem runsDown_measMicro (k : Quantity) : RunsDown (measInstr k) (measMicro k) where
  start s := ⟨(phaseOf_frame rfl).2 (by cases k <;> rfl), by rw [stepsLeft_frame rfl, framesLeft_measInstr]; omega⟩
  send s _ := ⟨_, rfl⟩
  afterFrame := .inl ⟨rfl, fun _ _ => by cases k <;> rfl⟩
  compute s _ := ⟨_, rfl, phaseOf_finish rfl, by rw [stepsLeft_finish rfl, framesLeft_measInstr]; omega⟩
  framesLeft fidx _ := by rw [framesLeft_measInstr]

theorem runsDown_convMicro (r : Half) (k : Quantity) : RunsDown (convInstr r k) (convMicro k r) where
  start s := ⟨(phaseOf_compute rfl).2 (by cases k <;> rfl), by rw [stepsLeft_compute rfl, framesLeft_convInstr]; omega⟩
  send s h := by cases k <;> cases h
  afterFrame := .inl ⟨rfl, fun _ h => by cases k <;> cases h⟩
  compute s _ := ⟨_, rfl, phaseOf_finish rfl, by rw [stepsLeft_finish rfl, framesLeft_convInstr]; omega⟩
  framesLeft fidx _ := by rw [framesLeft_convInstr]

theorem runsDown_microOf (i : Instr) : RunsDown i (microOf i) := by
  refine microOf_elim (P := RunsDown) ?read ?write ?cs1 ?cs2 runsDown_measMicro runsDown_convMicro ?frameRead
    ?frameWrite i
  case read =>
    exact fun a => runsDown_of_checkedFrame (.read a) (readMicro a) (readable a) (fun _ => rfl)
      (fun _ => rfl) (fun _ => rfl) (fun _ => rfl) (fun _ => ⟨_, rfl⟩) rfl
  case write =>
    exact fun a v => runsDown_of_checkedFrame (.write a v) (writeMicro a v) (writable a) (fun _ => rfl)
      (fun _ => rfl) (fun _ => rfl) (fun _ => rfl) (fun _ => ⟨_, rfl⟩) rfl
  case cs1 => exact runsDown_foldMicro _ (by decide) (fun _ => rfl) (fun _ => rfl) (fun _ => rfl)
  case cs2 => exact runsDown_foldMicro _ (by decide) (fun _ => rfl) (fun _ => rfl) (fun _ => rfl)
  case frameRead =>
    exact fun a => runsDown_of_checkedFrame (.frameRead a) (frameReadMicro a) (readable a)
      (fun _ => rfl) (fun _ => rfl) (fun _ => rfl) (fun _ => rfl) (fun _ => ⟨_, rfl⟩) rfl
  case frameWrite =>
    exact fun a v => runsDown_of_checkedFrame (.frameWrite a v) (frameWriteMicro a v) (writable a)
      (fun _ => rfl) (fun _ => rfl) (fun _ => rfl) (fun _ => rfl) (fun _ => ⟨_, rfl⟩) rfl

theorem stepsLeft_pos {i : Instr} {s : State} (h : PhaseOf i s) : 1 ≤ stepsLeft i s := by
  have hm := s.mpc.isLt
  cases hp : s.phase with
  | decode => simp [stepsLeft_decode hp]
  | abort => simp [stepsLeft_abort hp]
  | finish c => simp [stepsLeft_finish hp]
  | frame =>
    have := (runsDown_microOf i).framesLeft s.fidx (.inl ((phaseOf_frame hp).1 h))
    rw [stepsLeft_frame hp]
    omega
  | compute =>
    have := (runsDown_microOf i).framesLeft s.fidx (.inr ((phaseOf_compute hp).1 h))
    rw [stepsLeft_compute hp]
    omega

/-- A step of an instruction that does not end it leaves it in a phase of its own, nearer to its end. -/
theorem busyStep_progress {i : Instr} {s t : State} (h : PhaseOf i s) (hs : busyStep (microOf i) s = some t)
    (ht : t.st = .busy) : PhaseOf i t ∧ stepsLeft i t < stepsLeft i s := by
  have hdown := runsDown_microOf i
  rcases busyStep_cases hs with ⟨hp, rfl⟩ | ⟨hp, f, -, hf⟩ | ⟨hp, rfl⟩ | ⟨hp, hc⟩ | ⟨-, rfl⟩ | ⟨c, -, -, rfl⟩
  · obtain ⟨hphase, hleft⟩ := hdown.start s
    exact ⟨hphase, by rw [stepsLeft_decode hp]; omega⟩
  · have hmay := (phaseOf_frame hp).1 h
    have hframes := hdown.framesLeft s.fidx (.inl hmay)
    have hfidx : t.fidx = s.fidx := by
      obtain ⟨sel, mpc, hb, lb, replies, ops, phase, rfl⟩ := frameStep_frame hf
      rfl
    have hm := s.mpc.isLt
    rw [stepsLeft_frame hp]
    rcases frameStep_progress hp hf with ⟨hq, hlt⟩ | ⟨hq, hle⟩ | ⟨hq, hge⟩
    · rw [phaseOf_frame hq, stepsLeft_frame hq, hfidx]
      exact ⟨hmay, by omega⟩
    · exact ⟨by simp [PhaseOf, hq], by rw [stepsLeft_abort hq]; omega⟩
    · rcases hdown.afterFrame with ⟨ha, hnext⟩ | ha
      · rw [phaseOf_compute (hq.trans ha), stepsLeft_compute (hq.trans ha), hfidx]
        exact ⟨hnext _ hmay, by omega⟩
      · exact ⟨phaseOf_finish (hq.trans ha), by rw [stepsLeft_finish (hq.trans ha)]; omega⟩
  · exact ⟨phaseOf_finish rfl, by rw [stepsLeft_finish rfl, stepsLeft_abort hp]; decide⟩
  · have hmay := (phaseOf_compute hp).1 h
    have hframes := hdown.framesLeft s.fidx (.inr hmay)
    obtain ⟨u, hu, hphase, hleft⟩ := hdown.compute s hmay
    obtain rfl : u = t := Option.some.inj (hu.symm.trans hc)
    exact ⟨hphase, by rw [stepsLeft_compute hp]; omega⟩
  · obtain ⟨code, done, history, he⟩ := endCommand_frame .ok ((microOf i).commit s)
    rw [he] at ht
    cases ht
  · obtain ⟨code, done, history, he⟩ := endCommand_frame c s
    rw [he] at ht
    cases ht

/-- A step of a frame waits only for an answer (R37). -/
theorem replies_of_frameStep_eq_none {f : Frame} {p : Phase} {s : State} (h : frameStep f p s = none) :
    s.replies = [] := by
  unfold frameStep at h
  split at h
  case h_3 => exact (frameXchg_eq_none _ _ _ s).1 h
  case h_5 => exact (frameXchg_eq_none _ _ _ s).1 h
  case h_7 => exact (frameXchg_eq_none _ _ _ s).1 h
  all_goals cases h

/-- An instruction in a phase of its own waits only for an answer (R37). -/
theorem replies_of_busyStep_eq_none {i : Instr} {s : State} (h : PhaseOf i s) (hs : busyStep (microOf i) s = none) :
    s.replies = [] := by
  have hdown := runsDown_microOf i
  cases hp : s.phase with
  | frame =>
    obtain ⟨f, hf⟩ := hdown.send s ((phaseOf_frame hp).1 h)
    rw [busyStep_frame _ f s hp hf] at hs
    exact replies_of_frameStep_eq_none hs
  | compute =>
    obtain ⟨t, ht, -⟩ := hdown.compute s ((phaseOf_compute hp).1 h)
    simp [busyStep, hp, ht] at hs
  | decode => simp [busyStep, hp] at hs
  | abort => simp [busyStep, hp] at hs
  | finish c => simp [busyStep, hp] at hs

/-- With steps enough to the end, it makes no difference how many more a run is given. -/
theorem drive_of_stepsLeft_le {i : Instr} (n N : Nat) (s : State) (hn : s.resetIn = none) (h : PhaseOf i s)
    (hsn : stepsLeft i s ≤ n) (hsN : stepsLeft i s ≤ N) : drive (microOf i) n s = drive (microOf i) N s := by
  induction n generalizing s N with
  | zero => exact absurd (stepsLeft_pos h) (by omega)
  | succ n ih =>
    obtain ⟨N, rfl⟩ : ∃ k, N = k + 1 := ⟨N - 1, by have := stepsLeft_pos h; omega⟩
    cases hs : busyStep (microOf i) s with
    | none => rw [drive_wait _ _ s hn hs, drive_wait _ _ s hn hs]
    | some t =>
      cases ht : t.st with
      | idle => rw [drive_stop _ n s t hn hs ht, drive_stop _ N s t hn hs ht]
      | busy =>
        obtain ⟨hphase, hlt⟩ := busyStep_progress h hs ht
        rw [drive_go _ n s t hn hs ht, drive_go _ N s t hn hs ht]
        exact ih N t ((busyStep_microOf_resetIn hs).trans hn) hphase (by omega) (by omega)

/-! ### Answers that come later -/

/-- The state with more answers to come after those it holds. -/
def moreReplies (later : List Reply) (s : State) : State := { s with replies := s.replies ++ later }

/-- The parts of an instruction do not look at the answers to come. -/
structure BlindToReplies (m : Micro) : Prop where
  start : ∀ l s, m.start (moreReplies l s) = moreReplies l (m.start s)
  send : ∀ l s, m.send (moreReplies l s) = m.send s
  compute : ∀ l s, m.compute (moreReplies l s) = (m.compute s).map (moreReplies l)
  commit : ∀ l s, m.commit (moreReplies l s) = moreReplies l (m.commit s)

theorem startFrame_or_raise_moreReplies (allowed : Bool) (c : Code) (l : List Reply) (s : State) :
    (if allowed then startFrame (moreReplies l s) else raise c (moreReplies l s)) =
      moreReplies l (if allowed then startFrame s else raise c s) := by
  cases allowed <;> rfl

theorem nextRegister_moreReplies (count : Nat) (l : List Reply) (s : State) :
    nextRegister count (moreReplies l s) = moreReplies l (nextRegister count s) := by
  unfold nextRegister
  rw [apply_ite (moreReplies l)]
  rfl

theorem blindToReplies_foldMicro (base : Addr) (count : Nat) : BlindToReplies (foldMicro base count) where
  start l s := nextRegister_moreReplies count l (clearFold s)
  send _ _ := rfl
  compute l s := congrArg some (nextRegister_moreReplies count l (accumulate s))
  commit _ _ := rfl

theorem blindToReplies_microOf : ∀ i, BlindToReplies (microOf i) := by
  refine microOf_elim (P := fun _ m => BlindToReplies m) ?read ?write ?cs1 ?cs2 ?meas ?conv ?frameRead ?frameWrite
  case read => exact fun a => ⟨startFrame_or_raise_moreReplies _ _, fun _ _ => rfl, fun _ _ => rfl, fun _ _ => rfl⟩
  case write => exact fun a v => ⟨startFrame_or_raise_moreReplies _ _, fun _ _ => rfl, fun _ _ => rfl, fun _ _ => rfl⟩
  case cs1 => exact blindToReplies_foldMicro _ _
  case cs2 => exact blindToReplies_foldMicro _ _
  case meas => exact fun k => ⟨fun _ _ => rfl, fun _ _ => rfl, fun _ _ => rfl, fun _ _ => rfl⟩
  case conv => exact fun r k => ⟨fun _ _ => rfl, fun _ _ => rfl, fun _ _ => rfl, fun _ _ => rfl⟩
  case frameRead => exact fun a => ⟨startFrame_or_raise_moreReplies _ _, fun _ _ => rfl, fun _ _ => rfl, fun _ _ => rfl⟩
  case frameWrite => exact fun a v =>
    ⟨startFrame_or_raise_moreReplies _ _, fun _ _ => rfl, fun _ _ => rfl, fun _ _ => rfl⟩

theorem endCommand_moreReplies (c : Code) (l : List Reply) (s : State) :
    endCommand c (moreReplies l s) = moreReplies l (endCommand c s) := by
  have hwire : (moreReplies l s).wire = s.wire := rfl
  unfold endCommand
  rw [hwire]
  split <;> rfl

theorem frameXchg_moreReplies {out : Byte} {keep : Byte → State → State} {next : Fin 10} {s t : State}
    (l : List Reply) (hkeep : ∀ b u, keep b (moreReplies l u) = moreReplies l (keep b u))
    (h : frameXchg out keep next s = some t) :
    frameXchg out keep next (moreReplies l s) = some (moreReplies l t) := by
  obtain ⟨r, rest, hr, ⟨b, rfl, rfl⟩ | ⟨rfl, rfl⟩⟩ := frameXchg_cases h
  · rw [frameXchg_byte out keep next (moreReplies l s) b (rest ++ l) (by simp [moreReplies, hr])]
    have hk := hkeep b (emit (.xchg out (.byte b)) { s with replies := rest })
    exact congrArg (fun u => some (setMpc next u)) hk
  · exact frameXchg_busError out keep next (moreReplies l s) (rest ++ l) (by simp [moreReplies, hr])

theorem frameStep_moreReplies {f : Frame} {p : Phase} {s t : State} (l : List Reply)
    (h : frameStep f p s = some t) : frameStep f p (moreReplies l s) = some (moreReplies l t) := by
  have hmpc : (moreReplies l s).mpc = s.mpc := rfl
  unfold frameStep at h ⊢
  rw [hmpc]
  split at h
  -- The exchanges are the steps 2, 4 and 6 of R75; the steps 5, 8 and 9 ask for a delay's parameter.
  case h_3 => exact frameXchg_moreReplies l (fun _ _ => rfl) h
  case h_5 => exact frameXchg_moreReplies l (fun _ _ => rfl) h
  case h_7 => exact frameXchg_moreReplies l (fun _ _ => rfl) h
  all_goals
    obtain rfl := Option.some.inj h
    refine congrArg some ?_
  case h_6 => by_cases hd : 0 < s.cfg.tData <;> simp [hd, moreReplies] <;> rfl
  case h_9 => by_cases hd : 0 < s.cfg.tGap <;> simp [hd, moreReplies] <;> rfl
  case h_10 => by_cases hd : 0 < s.cfg.tGap <;> simp [hd, moreReplies] <;> rfl
  all_goals rfl

theorem busyStep_moreReplies {m : Micro} (hm : BlindToReplies m) {s t : State} (l : List Reply)
    (h : busyStep m s = some t) : busyStep m (moreReplies l s) = some (moreReplies l t) := by
  have hphase : (moreReplies l s).phase = s.phase := rfl
  unfold busyStep
  rw [hphase]
  rcases busyStep_cases h with ⟨hp, rfl⟩ | ⟨hp, f, hf, hs⟩ | ⟨hp, rfl⟩ | ⟨hp, hc⟩ | ⟨hp, rfl⟩ | ⟨c, hc, hp, rfl⟩ <;>
    simp only [hp]
  · exact congrArg some (hm.start l s)
  · rw [hm.send, hf]
    exact frameStep_moreReplies l hs
  · rfl
  · rw [hm.compute, hc]
    rfl
  · rw [if_pos trivial, hm.commit, endCommand_moreReplies]
  · rw [if_neg hc, endCommand_moreReplies]

/-- A run with more answers than it needs ends as without them; one that waits goes on with them from where it
stands. -/
theorem drive_moreReplies {i : Instr} (l : List Reply) (n N : Nat) (hN : n ≤ N) (s : State) (hn : s.resetIn = none)
    (hb : s.st = .busy) (h : PhaseOf i s) (hsn : stepsLeft i s ≤ n) :
    ((drive (microOf i) n s).st = .idle ∧
      drive (microOf i) n (moreReplies l s) = moreReplies l (drive (microOf i) n s)) ∨
    ((drive (microOf i) n s).st = .busy ∧ (drive (microOf i) n s).replies = [] ∧
      drive (microOf i) n (moreReplies l s) = drive (microOf i) N (moreReplies l (drive (microOf i) n s))) := by
  induction n generalizing s with
  | zero => exact absurd (stepsLeft_pos h) (by omega)
  | succ n ih =>
    cases hs : busyStep (microOf i) s with
    | none =>
      rw [drive_wait _ _ s hn hs]
      exact .inr ⟨hb, replies_of_busyStep_eq_none h hs, drive_of_stepsLeft_le _ _ (moreReplies l s) hn h hsn
        (hsn.trans hN)⟩
    | some t =>
      have hs' := busyStep_moreReplies (blindToReplies_microOf i) l hs
      cases ht : t.st with
      | idle =>
        rw [drive_stop _ n s t hn hs ht, drive_stop _ n (moreReplies l s) (moreReplies l t) hn hs' ht]
        exact .inl ⟨ht, rfl⟩
      | busy =>
        obtain ⟨hphase, hlt⟩ := busyStep_progress h hs ht
        rw [drive_go _ n s t hn hs ht, drive_go _ n (moreReplies l s) (moreReplies l t) hn hs' ht]
        exact ih (by omega) t ((busyStep_microOf_resetIn hs).trans hn) ht hphase (by omega)

/-- Settles O48: a run from acceptance has steps enough to its end, so that the steps spent before a wait do not
count. -/
theorem answersMayComeLater : Obligations.AnswersMayComeLater := by
  intro i s t later ⟨hidle, hn⟩ h
  obtain rfl : perform (encode i) (microOf i) s = t := by simpa [exec_eq] using h
  have haccept : accept (encode i) (moreReplies later s) = moreReplies later (accept (encode i) s) := by
    cases encode i <;> rfl
  have hstart : (accept (encode i) s).st = .busy ∧ (accept (encode i) s).resetIn = none ∧
      (accept (encode i) s).phase = .decode := by
    cases encode i <;> exact ⟨rfl, hn, rfl⟩
  obtain ⟨hbusy, hreset, hphase⟩ := hstart
  have hrun := drive_moreReplies (i := i) later maxSteps maxSteps (Nat.le_refl _) (accept (encode i) s) hreset hbusy
    (by simp [PhaseOf, hphase]) (by rw [stepsLeft_decode hphase]; decide)
  have hall : exec i (moreReplies later s) =
      .next (drive (microOf i) maxSteps (moreReplies later (accept (encode i) s))) := by
    rw [exec_eq, perform_idle _ _ (moreReplies later s) hidle hn, haccept]
  rw [perform_idle _ _ s hidle hn]
  change (_ → exec i (moreReplies later s) = .next (moreReplies later _)) ∧ (_ → _ ∧ exec i (moreReplies later s) = _)
  rw [hall]
  rcases hrun with ⟨hst, heq⟩ | ⟨hst, hnone, heq⟩
  · exact ⟨fun _ => congrArg _ heq, fun hb => absurd (hst.symm.trans hb) (by decide)⟩
  · refine ⟨fun hi => absurd (hst.symm.trans hi) (by decide), fun _ => ⟨hnone, ?_⟩⟩
    rw [heq, moreReplies, hnone, List.nil_append, exec_eq]
    exact congrArg _ (perform_busy _ _ _ (by exact hst)).symm

/-! ### The checksum commands -/

/-- `0x80 | a` is the header with DIR = 1 (R63, R64). -/
theorem headerByte_read : ∀ a : Addr, headerByte true a = 0x80#8 ||| a.setWidth 8 := by decide

/-- The trace of a READ frame as the spec writes it (R64, R75). -/
theorem frameTrace_readFrame (c : Config) (a : Addr) (r : Byte × Byte × Byte) :
    frameTrace c (readFrame c a) r.1 r.2.1 r.2.2 = frameOps c (readBytes c a) r := by
  simp [frameTrace, readFrame, frameOps, readBytes, headerByte_read, delayOps, pause]

theorem foldOps_cons (c : Config) (base : Nat) (r : Byte × Byte × Byte) (rs : List (Byte × Byte × Byte)) :
    foldOps c base (r :: rs) = frameOps c (readBytes c (BitVec.ofNat 7 base)) r ++ foldOps c (base + 1) rs := by
  simp only [foldOps, List.zipIdx_cons', List.flatMap_cons, List.flatMap_map, Nat.add_zero, Prod.map, id,
    Nat.add_assoc, Nat.add_comm 1]

theorem foldOps_nil (c : Config) (base : Nat) : foldOps c base [] = [] := rfl

theorem sumBytes_nil : sumBytes [] = 0 := rfl

theorem xorBytes_nil : xorBytes [] = 0 := rfl

theorem sumBytes_cons (r : Byte × Byte × Byte) (rs : List (Byte × Byte × Byte)) :
    sumBytes (r :: rs) = r.2.1 + r.2.2 + sumBytes rs := by
  simp [sumBytes, BitVec.ofNat_add]

theorem xorBytes_cons (r : Byte × Byte × Byte) (rs : List (Byte × Byte × Byte)) :
    xorBytes (r :: rs) = r.2.1 ^^^ r.2.2 ^^^ xorBytes rs := rfl

theorem repliesToAll_cons (r : Byte × Byte × Byte) (rs : List (Byte × Byte × Byte)) (rest : List Reply) :
    repliesToAll (r :: rs) ++ rest = .byte r.1 :: .byte r.2.1 :: .byte r.2.2 :: (repliesToAll rs ++ rest) := by
  simp [repliesToAll, repliesTo]

/-- The state once the registers that answered `rs`, `last` the last of them, are read and accumulated from `s` on,
before the loop's test (R85): `b` is the address of the first. -/
def folded (b : Nat) (rs : List (Byte × Byte × Byte)) (last : Byte × Byte × Byte) (rest : List Reply) (s : State) :
    State :=
  { s with sel := false, mpc := 0, hb := last.2.1, lb := last.2.2, replies := rest, phase := .compute,
           trace := s.trace ++ foldOps s.cfg b rs, sum8 := s.sum8 + sumBytes rs, xor8 := s.xor8 ^^^ xorBytes rs,
           fidx := s.fidx + BitVec.ofNat 4 rs.length }

theorem folded_cons (b : Nat) (r : Byte × Byte × Byte) (rs : List (Byte × Byte × Byte)) (last : Byte × Byte × Byte)
    (rest more : List Reply) (s : State) :
    folded (b + 1) rs last rest (startFrame (folded b [r] r more s)) = folded b (r :: rs) last rest s := by
  have hsum : s.sum8 + sumBytes [r] + sumBytes rs = s.sum8 + sumBytes (r :: rs) := by
    simp [sumBytes_cons, sumBytes_nil, BitVec.add_assoc]
  have hxor : s.xor8 ^^^ xorBytes [r] ^^^ xorBytes rs = s.xor8 ^^^ xorBytes (r :: rs) := by
    simp [xorBytes_cons, xorBytes_nil, BitVec.xor_assoc]
  have hidx : s.fidx + BitVec.ofNat 4 1 + BitVec.ofNat 4 rs.length = s.fidx + BitVec.ofNat 4 (rs.length + 1) := by
    rw [BitVec.add_assoc, ← BitVec.ofNat_add, Nat.add_comm]
  have htrace : s.trace ++ foldOps s.cfg b [r] ++ foldOps s.cfg (b + 1) rs = s.trace ++ foldOps s.cfg b (r :: rs) := by
    simp [foldOps_cons, foldOps_nil]
  simp [folded, startFrame, setPhase, setMpc, ← hsum, ← hxor, ← hidx, ← htrace]

section
variable (base : Addr) (count : Nat) (s : State) (hb : s.st = .busy) (hn : s.resetIn = none) (hp : s.phase = .frame)
  (hm : s.mpc = 0)
include hb hn hp hm

/-- One register of a fold: its frame and its accumulation, in at most eleven steps (R85). -/
theorem drive_register (r : Byte × Byte × Byte) (rest : List Reply)
    (hr : s.replies = .byte r.1 :: .byte r.2.1 :: .byte r.2.2 :: rest) :
    ∃ k, k ≤ 11 ∧ ∀ n, drive (foldMicro base count) (n + k) s =
      drive (foldMicro base count) n (nextRegister count (folded (base.toNat + s.fidx.toNat) [r] r rest s)) := by
  have hsend : ∀ t : State, t.cfg = s.cfg → t.fidx = s.fidx → (foldMicro base count).send t =
      some (readFrame s.cfg (BitVec.ofNat 7 (base.toNat + s.fidx.toNat))) := fun t hc hi => by
    rw [send_foldMicro, hc, hi]
  obtain ⟨k, hk, hframe⟩ := drive_frame (foldMicro base count) _ s hsend hb hn hp r.1 r.2.1 r.2.2 rest hm hr
  have hacc : accumulate (afterFrame (foldMicro base count)
      (readFrame s.cfg (BitVec.ofNat 7 (base.toNat + s.fidx.toNat))) r.1 r.2.1 r.2.2 rest s) =
      folded (base.toNat + s.fidx.toNat) [r] r rest s := by
    simp [accumulate, afterFrame, folded, frameTrace_readFrame, foldOps_cons, foldOps_nil, sumBytes_cons, sumBytes_nil,
      xorBytes_cons, xorBytes_nil, foldMicro, BitVec.add_assoc, BitVec.xor_assoc]
  have hst : (nextRegister count (folded (base.toNat + s.fidx.toNat) [r] r rest s)).st = .busy := by
    rcases nextRegister_cases count (folded (base.toNat + s.fidx.toNat) [r] r rest s) with ⟨-, h⟩ | ⟨-, h⟩ <;> rw [h]
    · exact hb
    · exact hb
  refine ⟨k + 1, by omega, fun n => ?_⟩
  rw [show n + (k + 1) = n + 1 + k by omega, hframe, ← hacc]
  exact drive_go _ n _ _ hn rfl (hacc ▸ hst)

end

/-- The registers of a fold in order, one after another, up to the loop's test after the last of them (R85, R88). -/
theorem drive_registers (base : Addr) (count : Nat) (hcount : count ≤ 11) (rs : List (Byte × Byte × Byte))
    (last : Byte × Byte × Byte) (rest : List Reply) (hlast : rs.getLast? = some last) (s : State) (hb : s.st = .busy)
    (hn : s.resetIn = none) (hp : s.phase = .frame) (hm : s.mpc = 0) (hle : s.fidx.toNat + rs.length ≤ count)
    (hr : s.replies = repliesToAll rs ++ rest) :
    ∃ k, k ≤ 11 * rs.length ∧ ∀ n, drive (foldMicro base count) (n + k) s =
      drive (foldMicro base count) n (nextRegister count (folded (base.toNat + s.fidx.toNat) rs last rest s)) := by
  induction rs generalizing s with
  | nil => cases hlast
  | cons r rs ih =>
    rw [repliesToAll_cons] at hr
    obtain ⟨k, hk, hfirst⟩ := drive_register base count s hb hn hp hm r _ hr
    cases rs with
    | nil =>
      obtain rfl : r = last := by simpa using hlast
      exact ⟨k, by simpa using hk, hfirst⟩
    | cons r' rs =>
      have hlen : s.fidx.toNat + 1 < count := by simp at hle; omega
      have hidx : (folded (base.toNat + s.fidx.toNat) [r] r (repliesToAll (r' :: rs) ++ rest) s).fidx.toNat =
          s.fidx.toNat + 1 := by
        simp only [folded, List.length_singleton, BitVec.toNat_add, BitVec.toNat_ofNat]
        omega
      have hnext : nextRegister count (folded (base.toNat + s.fidx.toNat) [r] r (repliesToAll (r' :: rs) ++ rest) s) =
          startFrame (folded (base.toNat + s.fidx.toNat) [r] r (repliesToAll (r' :: rs) ++ rest) s) :=
        if_pos (hidx ▸ hlen)
      obtain ⟨k', hk', hothers⟩ := ih (by simpa using hlast)
        (startFrame (folded (base.toNat + s.fidx.toNat) [r] r (repliesToAll (r' :: rs) ++ rest) s)) hb hn rfl rfl
        (by rw [startFrame_fidx, hidx]; simp at hle ⊢; omega) rfl
      refine ⟨k' + k, by simp at hk' ⊢; omega, fun n => ?_⟩
      rw [← Nat.add_assoc, hfirst, hnext, hothers, startFrame_fidx, hidx, ← Nat.add_assoc, folded_cons]

/-- The state at the first frame of a fold command (R85): accepted, decoded, the accumulators and FIDX at 0. -/
def foldStart (w : Word) (s : State) : State := startFrame (clearFold (accept (.command w) s))

/-- A fold command with all its answers runs to the end of its loop, and its end step commits (R85, R90). -/
theorem perform_foldMicro (base : Addr) (count : Nat) (hcount : 0 < count ∧ count ≤ 11) (w : Word)
    (rs : List (Byte × Byte × Byte)) (last : Byte × Byte × Byte) (rest : List Reply) (hlen : rs.length = count)
    (hlast : rs.getLast? = some last) (s : State) (hready : Ready s) (hr : s.replies = repliesToAll rs ++ rest) :
    perform (.command w) (foldMicro base count) s = endCommand .ok ((foldMicro base count).commit
      (setPhase (.finish .ok) (holdIndex (folded base.toNat rs last rest (foldStart w s))))) := by
  obtain ⟨hidle, hn⟩ := hready
  have hreset : (accept (.command w) s).resetIn = none := hn
  obtain ⟨k, hk, hrun⟩ := drive_registers base count hcount.2 rs last rest hlast (foldStart w s) rfl hn rfl rfl
    (by simp [foldStart, hlen]) hr
  have haddr : base.toNat + (foldStart w s).fidx.toNat = base.toNat := rfl
  rw [haddr] at hrun
  obtain ⟨j, hj⟩ : ∃ j, maxSteps = j + 1 + k + 1 := ⟨158 - k, by simp only [maxSteps]; omega⟩
  have hstart : busyStep (foldMicro base count) (accept (.command w) s) = some (foldStart w s) := by
    have hfirst : nextRegister count (clearFold (accept (.command w) s)) = foldStart w s := if_pos hcount.1
    exact congrArg some hfirst
  have hover : nextRegister count (folded base.toNat rs last rest (foldStart w s)) =
      setPhase (.finish .ok) (holdIndex (folded base.toNat rs last rest (foldStart w s))) := by
    refine if_neg ?_
    simp [folded, foldStart, hlen]
    omega
  rw [perform_idle _ _ s hidle hn, hj, drive_go _ (j + 1 + k) _ _ hreset hstart rfl, hrun, hover,
    drive_end _ j _ .ok (by exact hn) rfl, if_pos rfl]

/-- FIDX after the loop: 10 after CS2, and 10 after CS1 too (R23, notes/assumptions/8.md). -/
theorem holdIndex_folded (b : Nat) (rs : List (Byte × Byte × Byte)) (last : Byte × Byte × Byte)
    (rest : List Reply) (s : State) (h0 : s.fidx = 0) (hlen : rs.length = 10 ∨ rs.length = 11) :
    holdIndex (folded b rs last rest s) = { folded b rs last rest s with fidx := 10 } := by
  have hidx : (holdIndex (folded b rs last rest s)).fidx = 10 := by
    rw [holdIndex_fidx]
    rcases hlen with h | h <;> simp only [folded, h0, h] <;> rfl
  rw [← hidx]
  rfl

/-- The whole next state of a fold command with all its answers, for the counts of CS1 and CS2. -/
theorem perform_foldMicro_eq (base : Addr) (count : Nat) (hcount : count = 10 ∨ count = 11) (op : Nat)
    (rs : List (Byte × Byte × Byte)) (last : Byte × Byte × Byte) (rest : List Reply) (hlen : rs.length = count)
    (hlast : rs.getLast? = some last) (s : State) (hready : Ready s) (hr : s.replies = repliesToAll rs ++ rest) :
    perform (.command (word op 0 0)) (foldMicro base count) s = { ended (word op 0 0) .ok s with
      history := s.history ++ [csEvent op (xorBytes rs ++ sumBytes rs)], sel := false, hb := last.2.1, lb := last.2.2,
      replies := rest, trace := s.trace ++ foldOps s.cfg base.toNat rs,
      sum8 := sumBytes rs, xor8 := xorBytes rs, fidx := 10,
      csum := xorBytes rs ++ sumBytes rs, csumValid := true } := by
  rw [perform_foldMicro base count (by omega) _ rs last rest hlen hlast s hready hr,
    holdIndex_folded _ _ _ _ _ rfl (hlen ▸ hcount), endCommand_of_command _ _ rfl]
  simp [toIdle, writeStatus, csumReading, writeCsum, foldMicro, setPhase, folded, foldStart, startFrame, setMpc,
    clearFold, accept, clearDone, ended, csEvent, joinBytes, hready.1]

/-- Settles O21: the loop of R85 over the whole range, with the numbers of the two commands. -/
theorem checksumCommandsFoldTheirRange : Obligations.ChecksumCommandsFoldTheirRange := by
  intro s i op base count rs last rest hready hi hlen hlast hr
  rcases hi with ⟨rfl, rfl, rfl, rfl⟩ | ⟨rfl, rfl, rfl, rfl⟩
  · rw [exec_eq, show encode .cs1 = .command (word 0x08 0 0) by decide]
    exact congrArg _ (perform_foldMicro_eq cs1Base cs1Count (.inr rfl) _ rs last rest hlen hlast s hready hr)
  · rw [exec_eq, show encode .cs2 = .command (word 0x09 0 0) by decide]
    exact congrArg _ (perform_foldMicro_eq cs2Base cs2Count (.inl rfl) _ rs last rest hlen hlast s hready hr)

end Sys2Proof.Proofs

/-! PROOFS. The register address space and its byte order (20_memory.md R42, R49). -/

namespace Sys2Proof.Proofs

open Sys2Proof.Machine

/-! ### The address classes -/

/-- What the block may not read: the two ranges outside the defined map (R42, R54). -/
theorem readable_eq_false_iff (a : Addr) :
    readable a = false ↔ 0x3C ≤ a.toNat ∧ a.toNat ≤ 0x3F ∨ 0x70 ≤ a.toNat := by
  rw [← Bool.not_eq_true, readable_iff]; omega

/-- What the block may not write: everything above the configuration class (R42, R54). -/
theorem writable_eq_false_iff (a : Addr) : writable a = false ↔ 0x3C ≤ a.toNat := by
  rw [← Bool.not_eq_true, writable_iff]; omega

/-- Settles O6: the four rows of R42, each by the ranges of the two columns. -/
theorem addressClasses : Obligations.AddressClasses := by
  intro a
  refine ⟨fun config => ?_, fun ⟨above, below⟩ => ?_, fun ⟨above, below⟩ => ?_, fun outside => ?_⟩
  · exact ⟨(readable_iff a).mpr (.inl config), (writable_iff a).mpr config⟩
  · exact ⟨(readable_eq_false_iff a).mpr (.inl ⟨above, below⟩), (writable_eq_false_iff a).mpr above⟩
  · exact ⟨(readable_iff a).mpr (.inr ⟨above, below⟩), (writable_eq_false_iff a).mpr (by omega)⟩
  · exact ⟨(readable_eq_false_iff a).mpr (.inr outside), (writable_eq_false_iff a).mpr (by omega)⟩

/-! ### The byte order -/

/-- Settles O7: the split into bytes and the join of a pair, each by its number. -/
theorem bigEndianBytes : Obligations.BigEndianBytes :=
  ⟨fun v => ⟨toNat_hiByte v, toNat_loByte v, joinBytes_hi_lo v⟩, toNat_joinBytes⟩

end Sys2Proof.Proofs

/-! PROOFS. The encoding (30_encoding.md): which command words are rejected (R68 to R70), the header byte (R63), and
that a step is the meaning of the request it decodes. -/

namespace Sys2Proof.Proofs

open Sys2Proof.Machine Sys2Proof.Expect

/-! ### The rejected command words -/

/-- The decoder's checks as one condition: OP has a row in R68, and RSV and every field the row does not use are 0. -/
theorem decodeCommand_error_iff (w : Word) : (∃ e, decodeCommand w = .error e) ↔
    ¬ ∃ c, opClass (cmdOp w) = some c ∧ cmdRsv w = false ∧ (usesAddr c = true ∨ cmdAddr w = 0) ∧
      (usesData c = true ∨ cmdData w = 0) := by
  unfold decodeCommand
  cases opClass (cmdOp w) with
  | none => simp
  | some c =>
    have haddr : usesAddr c = true ∨ cmdAddr w = 0 ↔ ¬ (!usesAddr c && cmdAddr w != 0) = true := by
      cases usesAddr c <;> simp
    have hdata : usesData c = true ∨ cmdData w = 0 ↔ ¬ (!usesData c && cmdData w != 0) = true := by
      cases usesData c <;> simp
    simp only [Option.some.injEq, exists_eq_left', haddr, hdata]
    split_ifs with reserved unusedAddr unusedData
    · exact iff_of_true ⟨_, rfl⟩ fun ⟨clear, _⟩ => by simp [reserved] at clear
    · exact iff_of_true ⟨_, rfl⟩ fun ⟨_, addrOk, _⟩ => addrOk unusedAddr
    · exact iff_of_true ⟨_, rfl⟩ fun ⟨_, _, dataOk⟩ => dataOk unusedData
    · exact iff_of_false (by simp) (not_not.mpr ⟨by simpa using reserved, unusedAddr, unusedData⟩)

/-- The OP values of `listedOps` are the ones that have a row in R68. -/
theorem mem_listedOps_iff : ∀ op : BitVec 8, op.toNat ∈ listedOps ↔ ∃ c, opClass op = some c := by
  have rows : ∀ op : BitVec 8, op.toNat ∈ listedOps ↔ (opClass op).isSome = true := by decide
  simpa only [Option.isSome_iff_exists] using rows

/-- Of the rows of R68, READ and WRITE use ADDR. -/
theorem usesAddr_iff : ∀ op : BitVec 8, ∀ c ∈ opClass op, usesAddr c = true ↔ op.toNat ∈ [0x01, 0x02] := by decide

/-- Of the rows of R68, WRITE and CONV.q use DATA. -/
theorem usesData_iff : ∀ op : BitVec 8, ∀ c ∈ opClass op, usesData c = true ↔ op.toNat = 0x02 ∨ 0x20 ≤ op.toNat := by
  decide

/-! The fields of a command word as numbers (R66). -/

theorem toNat_cmdOp (w : Word) : (cmdOp w).toNat = w.toNat / 2 ^ 24 := by
  have := w.isLt
  simp only [cmdOp, BitVec.extractLsb'_toNat, Nat.shiftRight_eq_div_pow]; omega

theorem cmdRsv_eq_false_iff (w : Word) : cmdRsv w = false ↔ w.toNat / 2 ^ 23 % 2 = 0 := by
  simp [cmdRsv, BitVec.getLsbD, Nat.testBit_eq_decide_div_mod_eq]

theorem cmdAddr_eq_zero_iff (w : Word) : cmdAddr w = 0 ↔ w.toNat / 2 ^ 16 % 2 ^ 7 = 0 := by
  simp [cmdAddr, ← BitVec.toNat_inj, BitVec.extractLsb'_toNat, Nat.shiftRight_eq_div_pow]

theorem cmdData_eq_zero_iff (w : Word) : cmdData w = 0 ↔ w.toNat % 2 ^ 16 = 0 := by
  simp [cmdData, ← BitVec.toNat_inj, BitVec.extractLsb'_toNat]

/-- A legal word in terms of its fields and of the row its OP has in R68. -/
theorem legalWord_iff (w : Word) : legalWord w.toNat ↔
    ∃ c, opClass (cmdOp w) = some c ∧ cmdRsv w = false ∧ (usesAddr c = true ∨ cmdAddr w = 0) ∧
      (usesData c = true ∨ cmdData w = 0) := by
  rw [legalWord, ← toNat_cmdOp, mem_listedOps_iff, ← cmdRsv_eq_false_iff, ← cmdAddr_eq_zero_iff,
    ← cmdData_eq_zero_iff, ← or_assoc, ← exists_and_right]
  refine exists_congr fun c => and_congr_right fun hc => ?_
  rw [usesAddr_iff _ c hc, usesData_iff _ c hc]

/-- Settles O3: the decoder's checks and the arithmetic of `legalWord` are one condition on the fields. -/
theorem wordRejectedExactlyWhenIllegal : Obligations.WordRejectedExactlyWhenIllegal := fun w =>
  (decodeCommand_error_iff w).trans (not_congr (legalWord_iff w).symm)

/-! ### The header byte -/

/-- DIR = 0 leaves the address alone in the header (R63). -/
theorem headerByte_write (a : Addr) : headerByte false a = a.setWidth 8 := by
  have := a.isLt
  apply BitVec.eq_of_toNat_eq
  simp only [headerByte, toNat_append_eq, BitVec.ofBool_false, BitVec.ofNat_eq_ofNat, BitVec.toNat_ofNat,
    BitVec.toNat_setWidth]
  omega

/-- R63's formula. -/
theorem headerByte_eq (dir : Bool) (a : Addr) :
    headerByte dir a = (BitVec.ofNat 8 dir.toNat <<< 7) ||| a.setWidth 8 := by
  cases dir with
  | true => exact headerByte_read a
  | false => rw [headerByte_write]; simp

/-- Settles O5: R63's formula and the two fields of its byte. -/
theorem headerByteLayout : Obligations.HeaderByteLayout := fun dir a =>
  ⟨headerByte_eq dir a, headerByte_dir dir a, headerByte_addr dir a⟩

/-! ### The instruction a step runs -/

/-- A step of a block whose delays meet R77 is the meaning of its current request, where that decodes. -/
theorem step_eq_exec {s : State} {r : Request} {i : Instr} (htiming : s.cfg.timingOk = true)
    (hreq : currentRequest s = some r) (hdecode : decode r = .ok i) : step s = exec i s := by
  simp only [step, htiming, if_true, hreq, hdecode]

theorem currentRequest_presented {s : State} {r : Request} {rest : List Request} (hidle : s.st = .idle)
    (hport : s.port = r :: rest) : currentRequest s = some r := by simp [currentRequest, hidle, hport]

theorem currentRequest_command {s : State} (hbusy : s.st = .busy) (hwire : s.wire = none) :
    currentRequest s = some (.command s.cmd) := by simp [currentRequest, hbusy, hwire]

theorem currentRequest_frame {s : State} {h : Byte} {d : Half} (hbusy : s.st = .busy) (hwire : s.wire = some (h, d)) :
    currentRequest s = some (.frame h d) := by simp [currentRequest, hbusy, hwire]

/-- Settles O8: the three places the current request stands in (R36, R69). -/
theorem stepRunsTheDecodedInstruction : Obligations.StepRunsTheDecodedInstruction := by
  intro s i htiming hcurrent
  obtain ⟨hidle, r, rest, hport, hdecode⟩ | ⟨hbusy, hwire, hdecode⟩ | ⟨hbusy, h, d, hwire, hdecode⟩ := hcurrent
  · exact step_eq_exec htiming (currentRequest_presented hidle hport) hdecode
  · exact step_eq_exec htiming (currentRequest_command hbusy hwire) hdecode
  · exact step_eq_exec htiming (currentRequest_frame hbusy hwire) hdecode

end Sys2Proof.Proofs

/-! PROOFS. The invariant of the block (40_register_link.md R75 to R79): an observer of the bus follows every step of a
frame and of its abort, an instruction's own parts leave the bus alone, and every step keeps the invariant. -/

namespace Sys2Proof.Proofs

open Sys2Proof.Machine Sys2Proof.Safety Sys2Proof.Expect

/-! ### The headers the block sends -/

theorem headerAllowed_read : ∀ a : Addr, readable a = true → headerAllowed (headerByte true a) = true := by decide

theorem headerAllowed_write : ∀ a : Addr, writable a = true → headerAllowed (headerByte false a) = true := by decide

/-- A fold's frame reads a configuration register while FIDX is below the count (R88). -/
theorem readable_foldAddr {base : Addr} {count : Nat} (hrange : base.toNat + count ≤ 0x3C) {s : State}
    (hlt : s.fidx.toNat < count) : readable (foldAddr base s) = true := by
  rw [readable_iff, foldAddr_eq, BitVec.toNat_ofNat]
  omega

theorem headerAllowed_foldMicro {base : Addr} {count : Nat} (hrange : base.toNat + count ≤ 0x3C) {s : State} {f : Frame}
    (hlt : s.fidx.toNat < count) (h : (foldMicro base count).send s = some f) : headerAllowed f.header = true := by
  obtain rfl : readFrame s.cfg (foldAddr base s) = f := Option.some.inj h
  exact headerAllowed_read _ (readable_foldAddr hrange hlt)

/-- R65: an instruction that may have a frame in progress sends an allowed header. -/
theorem headerAllowed_of_send {i : Instr} {s : State} {f : Frame} (hmay : mayFrame s.fidx i = true)
    (h : (microOf i).send s = some f) : headerAllowed f.header = true := by
  revert hmay h
  refine microOf_elim (P := fun i m => mayFrame s.fidx i = true → m.send s = some f → headerAllowed f.header = true)
    ?read ?write ?cs1 ?cs2 ?meas ?conv ?frameRead ?frameWrite i
  case read => exact fun a hmay h => Option.some.inj h ▸ headerAllowed_read a hmay
  case write => exact fun a v hmay h => Option.some.inj h ▸ headerAllowed_write a hmay
  case cs1 => exact fun hmay => headerAllowed_foldMicro (by decide) (of_decide_eq_true hmay)
  case cs2 => exact fun hmay => headerAllowed_foldMicro (by decide) (of_decide_eq_true hmay)
  case meas => exact fun k _ h => Option.some.inj h ▸ headerAllowed_read _ (measAddr_readable _ k)
  case conv => exact fun r k _ h => nomatch h
  case frameRead => exact fun a hmay h => Option.some.inj h ▸ headerAllowed_read a hmay
  case frameWrite => exact fun a v hmay h => Option.some.inj h ▸ headerAllowed_write a hmay

/-! ### The transport protocol, step by step -/

theorem linkRun_append (g : LinkStage) (xs ys : List Op) :
    linkRun g (xs ++ ys) = (linkRun g xs).bind fun g' => linkRun g' ys := by
  induction xs generalizing g with
  | nil => rfl
  | cons o xs ih => simp [linkRun, ih, Option.bind_assoc]

/-! The windows of R77, where an operation has to meet one. -/

theorem linkStep_header {d : Nat} {out : Byte} (hd : Config.tPreMin ≤ d) (hout : headerAllowed out = true) (r : Reply) :
    linkStep (.selected d) (.xchg out r) = some (afterXchg (.headerSent 0) r) := if_pos ⟨hd, hout⟩

theorem linkStep_first {d : Nat} (hd : Config.tHdrMin ≤ d) (out : Byte) (r : Reply) :
    linkStep (.headerSent d) (.xchg out r) = some (afterXchg .oneSent r) := if_pos hd

theorem linkStep_deassert {d : Nat} (hd : Config.tPostMin ≤ d) :
    linkStep (.twoSent d) .selDeassert = some .between := if_pos hd

/-- An observer of the bus has seen frames of R75 and R76 up to the stage the block's registers stand for, and SEL is
asserted exactly within one (R79). -/
structure OnProtocol (s : State) : Prop where
  sel : s.sel = true ↔ stageOf s ≠ .between
  seen : linkRun .between s.trace = some (stageOf s)

theorem onProtocol_iff (s : State) :
    OnProtocol s ↔ selFits s = true ∧ linkRun .between s.trace = some (stageOf s) := by
  have hsel : selFits s = true ↔ (s.sel = true ↔ stageOf s ≠ .between) := by
    cases h : s.sel <;> simp [selFits, h]
  exact ⟨fun h => ⟨hsel.2 h.sel, h.seen⟩, fun ⟨h, hseen⟩ => ⟨hsel.1 h, hseen⟩⟩

section
variable {s t : State} {g g' : LinkStage} {o : Op} (h : OnProtocol s)
include h

/-- What neither SEL nor the trace nor the stage shows, the observer does not see. -/
theorem OnProtocol.quiet (hstage : stageOf t = stageOf s) (hsel : t.sel = s.sel) (htrace : t.trace = s.trace) :
    OnProtocol t :=
  ⟨by rw [hsel, hstage]; exact h.sel, by rw [htrace, hstage]; exact h.seen⟩

/-- One operation the observer accepts takes the block from one stage to the next. -/
theorem OnProtocol.op (hg : stageOf s = g) (hg' : stageOf t = g') (htrace : t.trace = s.trace ++ [o])
    (ho : linkStep g o = some g') (hsel : t.sel = true ↔ g' ≠ .between) : OnProtocol t := by
  refine ⟨hg' ▸ hsel, ?_⟩
  rw [htrace, linkRun_append, h.seen, hg, hg']
  simp [linkRun, ho]

/-- The same within a frame, where SEL stays as it is. -/
theorem OnProtocol.opWithin (hg : stageOf s = g) (hg' : stageOf t = g') (htrace : t.trace = s.trace ++ [o])
    (ho : linkStep g o = some g') (hsel : t.sel = s.sel) (hin : g ≠ .between) (hin' : g' ≠ .between) :
    OnProtocol t :=
  h.op hg hg' htrace ho (by rw [hsel, h.sel, hg]; exact iff_of_true hin hin')

end

/-- The stage at each step of a frame (R75). -/
def frameStage (c : Config) : Fin 10 → LinkStage
  | 0 | 9 => .between
  | 1 => .selected 0
  | 2 => .selected c.tPre
  | 3 => .headerSent 0
  | 4 => .headerSent c.tHdr
  | 5 | 6 => .oneSent
  | 7 => .twoSent 0
  | 8 => .twoSent c.tPost

theorem stageOf_frame {s : State} (hp : s.phase = .frame) : stageOf s = frameStage s.cfg s.mpc := by
  simp only [stageOf, hp]
  split <;> rename_i hm <;> rw [hm] <;> rfl

/-- Outside frames and aborts nothing is on the bus, whatever MPC holds. -/
theorem stageOf_of_after {p : Phase} (hp : p = .compute ∨ p = .finish .ok) {s : State} (h : s.phase = p) :
    stageOf s = .between := by
  obtain rfl | rfl := hp <;> simp [stageOf, h]

/-- Every step of a frame is one the observer accepts (R75 to R77, R79): the delays meet the minima, and the header is
one of R65. -/
theorem frameStep_onProtocol {f : Frame} {p : Phase} {s t : State} (htiming : s.cfg.timingOk = true)
    (hheader : headerAllowed f.header = true) (hafter : p = .compute ∨ p = .finish .ok) (hp : s.phase = .frame)
    (h : OnProtocol s) (hs : frameStep f p s = some t) : OnProtocol t := by
  obtain ⟨hpre, hhdr, hpost⟩ : Config.tPreMin ≤ s.cfg.tPre ∧ Config.tHdrMin ≤ s.cfg.tHdr ∧
    Config.tPostMin ≤ s.cfg.tPost := (timingOk_iff s.cfg).1 htiming
  have stage : ∀ {k}, s.mpc = k → stageOf s = frameStage s.cfg k := fun hm => by rw [stageOf_frame hp, hm]
  rcases frameStep_cases hs with ⟨hm, rfl⟩ | ⟨hm, rfl⟩ | ⟨hm, b, rest, -, rfl⟩ | ⟨hm, rfl⟩ | ⟨hm, b, rest, -, rfl⟩ |
    ⟨hm, rfl⟩ | ⟨hm, b, rest, -, rfl⟩ | ⟨hm, rfl⟩ | ⟨hm, -, rfl⟩ | ⟨hm, -, rfl⟩ | ⟨hm, rfl⟩ |
    ⟨out, rest, ⟨hm, rfl⟩ | ⟨hm, rfl⟩ | ⟨hm, rfl⟩, -, rfl⟩
  · exact h.op (stage hm) (stageOf_frame hp) rfl rfl (iff_of_true rfl nofun)
  · exact h.opWithin (stage hm) (stageOf_frame hp) rfl (by simp [frameStage, linkStep]) rfl nofun nofun
  · exact h.opWithin (stage hm) (stageOf_frame hp) rfl (linkStep_header hpre hheader _) rfl nofun nofun
  · exact h.opWithin (stage hm) (stageOf_frame hp) rfl (by simp [frameStage, linkStep]) rfl nofun nofun
  · refine h.opWithin (g' := .oneSent) (stage hm) ?_ rfl (linkStep_first hhdr _ _) rfl nofun nofun
    split <;> exact stageOf_frame hp
  · split
    · exact h.opWithin (stage hm) (stageOf_frame hp) rfl rfl rfl nofun nofun
    · exact h.quiet ((stageOf_frame (s := setMpc 6 s) hp).trans (stage hm).symm) rfl rfl
  · exact h.opWithin (stage hm) (stageOf_frame hp) rfl rfl rfl nofun nofun
  · exact h.opWithin (stage hm) (stageOf_frame hp) rfl (by simp [frameStage, linkStep]) rfl nofun nofun
  · exact h.op (stage hm) (stageOf_frame hp) rfl (linkStep_deassert hpost) (by simp [frameStage])
  · exact h.op (stage hm) (stageOf_of_after hafter rfl) rfl (linkStep_deassert hpost) (by simp)
  · split
    · refine h.op (stage hm) (stageOf_of_after hafter rfl) rfl rfl ?_
      simp [h.sel, stage hm, frameStage]
    · exact h.quiet ((stageOf_of_after hafter rfl).trans (stage hm).symm) rfl rfl
  · exact h.opWithin (g' := .failed) (stage hm) rfl rfl (linkStep_header hpre hheader _) rfl nofun nofun
  · exact h.opWithin (g' := .failed) (stage hm) rfl rfl (linkStep_first hhdr _ _) rfl nofun nofun
  · exact h.opWithin (g' := .failed) (stage hm) rfl rfl rfl rfl nofun nofun

/-! ### The parts of an instruction and the protocol -/

/-- The parts the block runs for what its request decodes to: an instruction's, or those that raise IllegalCommand. -/
def partsOf : Option Instr → Micro
  | some i => microOf i
  | none => illegalMicro

theorem partsOf_cases : ∀ o, partsOf o = illegalMicro ∨ ∃ i, partsOf o = microOf i
  | some i => .inr ⟨i, rfl⟩
  | none => .inl rfl

/-- SEL and the trace: what the bus shows. -/
def busGroup (s : State) : Bool × List Op := (s.sel, s.trace)

/-- Outside its frames an instruction leaves the bus alone: its own parts keep SEL and the trace, and each of them, and
what follows a frame, is between frames (R79). -/
structure OffTheBus (m : Micro) : Prop where
  keeps : Keeps busGroup m
  start : ∀ s, stageOf (m.start s) = .between
  compute : ∀ s t, m.compute s = some t → stageOf t = .between
  afterFrame : m.afterFrame = .compute ∨ m.afterFrame = .finish .ok

theorem stageOf_startFrame_or_raise (allowed : Bool) (c : Code) (s : State) :
    stageOf (if allowed then startFrame s else raise c s) = .between := by
  cases allowed <;> rfl

theorem stageOf_nextRegister (count : Nat) (s : State) : stageOf (nextRegister count s) = .between := by
  rcases nextRegister_cases count s with ⟨-, h⟩ | ⟨-, h⟩ <;> rw [h] <;> rfl

theorem stageOf_start_microOf (s : State) : ∀ i, stageOf ((microOf i).start s) = .between :=
  microOf_elim (P := fun _ m => stageOf (m.start s) = .between)
    (fun _ => stageOf_startFrame_or_raise _ _ s) (fun _ _ => stageOf_startFrame_or_raise _ _ s)
    (stageOf_nextRegister cs1Count (clearFold s)) (stageOf_nextRegister cs2Count (clearFold s))
    (fun _ => rfl) (fun _ _ => rfl)
    (fun _ => stageOf_startFrame_or_raise _ _ s) (fun _ _ => stageOf_startFrame_or_raise _ _ s)

theorem stageOf_compute_microOf (s t : State) : ∀ i, (microOf i).compute s = some t → stageOf t = .between :=
  microOf_elim (P := fun _ m => m.compute s = some t → stageOf t = .between)
    (fun _ h => nomatch h) (fun _ _ h => nomatch h)
    (fun h => Option.some.inj h ▸ stageOf_nextRegister _ _) (fun h => Option.some.inj h ▸ stageOf_nextRegister _ _)
    (fun _ h => Option.some.inj h ▸ rfl) (fun _ _ h => Option.some.inj h ▸ rfl)
    (fun _ h => nomatch h) (fun _ _ h => nomatch h)

theorem offTheBus_partsOf : ∀ o, OffTheBus (partsOf o)
  | none => ⟨keeps_illegalMicro fun _ _ _ => rfl, fun _ => rfl, fun _ _ h => (nomatch h), .inr rfl⟩
  | some i =>
    { keeps := keeps_microOf (fun _ _ _ => rfl) i (fun _ _ _ => rfl) (fun _ _ _ _ => rfl)
        fun _ => ⟨fun _ => rfl, fun _ => rfl, fun _ => rfl, fun _ _ => rfl⟩
      start := fun s => stageOf_start_microOf s i
      compute := fun s t => stageOf_compute_microOf s t i
      afterFrame := (resultsOnSuccessOnly_microOf i).afterFrame }

/-- What the bus does not show, the observer does not see. -/
theorem OnProtocol.of_busGroup {s t : State} (h : OnProtocol s) (hbus : busGroup t = busGroup s)
    (hstage : stageOf t = stageOf s) : OnProtocol t := by
  obtain ⟨hsel, htrace⟩ := Prod.mk.inj hbus
  exact h.quiet hstage hsel htrace

theorem endCommand_busGroup (c : Code) (s : State) :
    busGroup (endCommand c s) = busGroup s ∧ stageOf (endCommand c s) = .between := by
  obtain ⟨code, done, history, h⟩ := endCommand_frame c s
  rw [h]
  exact ⟨rfl, rfl⟩

/-- R75 to R77 and R79 for every step of a busy block, the instruction `o` in progress. -/
theorem busyStep_onProtocol {o : Option Instr} {s t : State} (htiming : s.cfg.timingOk = true)
    (hmay : s.phase = .frame → o.any (mayFrame s.fidx) = true) (h : OnProtocol s)
    (hs : busyStep (partsOf o) s = some t) : OnProtocol t := by
  have hoff := offTheBus_partsOf o
  have between : ∀ {p}, s.phase = p → stageOf { s with phase := p } = .between → stageOf s = .between :=
    fun hp hst => by rw [← hp] at hst; exact hst
  rcases busyStep_cases hs with ⟨hp, rfl⟩ | ⟨hp, f, hf, hstep⟩ | ⟨hp, rfl⟩ | ⟨hp, hc⟩ | ⟨hp, rfl⟩ | ⟨c, -, hp, rfl⟩
  · exact h.of_busGroup (hoff.keeps.start s) ((hoff.start s).trans (between hp rfl).symm)
  · obtain ⟨i, rfl, hi⟩ : ∃ i, o = some i ∧ mayFrame s.fidx i = true := by simpa [Option.any_eq_true] using hmay hp
    exact frameStep_onProtocol htiming (headerAllowed_of_send hi hf) hoff.afterFrame hp h hstep
  · refine h.op (g := .failed) (g' := .between) (o := .selDeassert) ?_ rfl rfl rfl (by simp)
    simp [stageOf, hp]
  · exact h.of_busGroup (hoff.keeps.compute s t hc) ((hoff.compute s t hc).trans (between hp rfl).symm)
  · obtain ⟨hbus, hstage⟩ := endCommand_busGroup .ok ((partsOf o).commit s)
    exact h.of_busGroup (hbus.trans (hoff.keeps.commit s)) (hstage.trans (between hp rfl).symm)
  · obtain ⟨hbus, hstage⟩ := endCommand_busGroup c s
    exact h.of_busGroup hbus (hstage.trans (between hp rfl).symm)

/-! ### The widths of a conversion -/

theorem natAbs_zext_le (v : Half) : (zext v).natAbs ≤ 65535 := by
  have := v.isLt
  simp only [zext, Int.natAbs_natCast]
  omega

theorem natAbs_sext16_le (v : Half) : (sext16 v).natAbs ≤ 32768 := by
  have hlo := v.le_toInt
  have hhi := v.toInt_lt
  rw [sext16_eq_toInt]
  omega

theorem natAbs_sm16_le (v : Half) : (sm16 v).natAbs ≤ 32767 := by
  rw [sm16_eq]
  split <;> omega

theorem pDivValue_bounds (d : PDiv) : 1 ≤ pDivValue d ∧ pDivValue d ≤ 1000 := by
  cases d <;> decide

/-- R106: every conversion fits the widths of R26. -/
theorem convert_fits (c : Config) (r : Half) (k : Quantity) : (convert c r k).1.natAbs ≤ 65535 * 65535 ∧
    1 ≤ (convert c r k).2 ∧ (convert c r k).2 ≤ 100 * 65535 := by
  have hu := natAbs_zext_le r
  have hs := natAbs_sext16_le r
  have hm := natAbs_sm16_le r
  cases k
  case v =>
    have hden := c.vgainDenLess1.isLt
    refine ⟨?_, ?_, ?_⟩
    · simp only [convert, pairV, Int.natAbs_mul]
      exact Nat.mul_le_mul hu (natAbs_zext_le _)
    · simp only [convert, pairV, Config.vgainDen]; omega
    · simp only [convert, pairV, Config.vgainDen]; omega
  case p =>
    obtain ⟨hlo, hhi⟩ := pDivValue_bounds c.pDiv
    exact ⟨by simp only [convert, pairP]; omega, hlo, hhi.trans (by decide)⟩
  all_goals
    simp only [convert, pairI, pairQS, pairF, pairPF, pairPA, pairEA, pairER]
    omega

theorem toNat_quantityCode_le (k : Quantity) : (quantityCode k).toNat ≤ 0xD := by cases k <;> decide

theorem convFits_writeConv (k : Quantity) (c : Config) (r : Half) (s : State) :
    convFits (writeConv k (convert c r k) s) = true := by
  obtain ⟨hnum, hpos, hden⟩ := convert_fits c r k
  simp only [convFits, writeConv_convM, writeConv_convD, writeConv_convQ, hnum, hpos, hden, toNat_quantityCode_le,
    decide_true, Bool.and_self, Bool.or_true]

theorem convFits_eq_of_convGroup {s t : State} (h : convGroup t = convGroup s) : convFits t = convFits s := by
  simp only [convGroup, Prod.mk.injEq] at h
  obtain ⟨hM, hD, hQ, hV⟩ := h
  rw [convFits, convFits, hM, hD, hQ, hV]

/-- A conversion leaves a pair that fits, whatever the registers held; nothing else writes them. -/
structure FitsConversion (m : Micro) : Prop where
  start : ∀ s, convFits (m.start s) = convFits s
  compute : ∀ s t, convFits s = true → m.compute s = some t → convFits t = true
  commit : ∀ s, convFits (m.commit s) = convFits s

theorem Keeps.fitsConversion {m : Micro} (h : Keeps convGroup m) : FitsConversion m where
  start s := convFits_eq_of_convGroup (h.start s)
  compute s t hs ht := (convFits_eq_of_convGroup (h.compute s t ht)).trans hs
  commit s := convFits_eq_of_convGroup (h.commit s)

theorem fitsConversion_microOf : ∀ i, FitsConversion (microOf i) := by
  have hf : ∀ s mpc phase, convGroup { s with mpc := mpc, phase := phase } = convGroup s := fun _ _ _ => rfl
  have hfold : OffFold convGroup := ⟨fun _ => rfl, fun _ => rfl, fun _ => rfl, fun _ _ => rfl⟩
  refine microOf_elim (P := fun _ m => FitsConversion m) ?read ?write ?cs1 ?cs2 ?meas ?conv ?frameRead ?frameWrite
  case read => exact fun a => (keeps_readMicro hf (fun _ _ => rfl) a).fitsConversion
  case write => exact fun a v => (keeps_writeMicro hf a v).fitsConversion
  case cs1 => exact (keeps_foldMicro hf hfold _ _).fitsConversion
  case cs2 => exact (keeps_foldMicro hf hfold _ _).fitsConversion
  case meas =>
    exact fun k => ⟨fun _ => rfl, fun s t _ h =>
      Option.some.inj h ▸ convFits_writeConv k _ _ (writeRData (joinBytes s.hb s.lb) s), fun _ => rfl⟩
  case conv =>
    exact fun r k => ⟨fun _ => rfl, fun s t _ h => Option.some.inj h ▸ convFits_writeConv k _ r s, fun _ => rfl⟩
  case frameRead => exact fun a => (keeps_frameReadMicro hf a).fitsConversion
  case frameWrite => exact fun a v => (keeps_frameWriteMicro hf a v).fitsConversion

/-! ### Every step keeps the invariant -/

/-- The phase is one that what the request decodes to can be in. -/
def PhaseFits (o : Option Instr) (s : State) : Prop :=
  (s.phase = .frame → o.any (mayFrame s.fidx) = true) ∧ (s.phase = .compute → o.any (mayCompute s.fidx) = true)

theorem phaseFits_iff (s : State) : phaseFits s = true ↔ PhaseFits (currentInstr s) s := by
  cases h : s.phase <;> simp [phaseFits, PhaseFits, h]

theorem phaseFits_some_iff (i : Instr) (s : State) : PhaseFits (some i) s ↔ PhaseOf i s := by
  cases h : s.phase <;> simp [PhaseFits, PhaseOf, h]

theorem busyStep_phaseFits {o : Option Instr} {s t : State} (h : PhaseFits o s)
    (hs : busyStep (partsOf o) s = some t) (ht : t.st = .busy) : PhaseFits o t := by
  cases o with
  | some i => exact (phaseFits_some_iff i t).2 (busyStep_progress ((phaseFits_some_iff i s).1 h) hs ht).1
  | none =>
    have outside : ∀ c, t.phase = .finish c → PhaseFits none t := fun c hc => by simp [PhaseFits, hc]
    rcases busyStep_cases hs with ⟨-, rfl⟩ | ⟨-, f, hf, -⟩ | ⟨-, rfl⟩ | ⟨-, hc⟩ | ⟨-, rfl⟩ | ⟨c, -, -, rfl⟩
    · exact outside _ rfl
    · cases hf
    · exact outside _ rfl
    · cases hc
    · obtain ⟨code, done, history, he⟩ := endCommand_frame .ok ((partsOf none).commit s)
      rw [he] at ht
      cases ht
    · obtain ⟨code, done, history, he⟩ := endCommand_frame c s
      rw [he] at ht
      cases ht

theorem blockInv_iff (s : State) : BlockInv s ↔ s.cfg.timingOk = true ∧ restsWhenIdle s = true ∧
    PhaseFits (currentInstr s) s ∧ doneFits s = true ∧ convFits s = true ∧ fidxFits s = true ∧ OnProtocol s := by
  rw [BlockInv, phaseFits_iff, onProtocol_iff]
  tauto

/-- A busy block of the invariant, its request decoding to `o`. -/
structure Working (o : Option Instr) (s : State) : Prop where
  busy : s.st = .busy
  request : currentInstr s = o
  inv : BlockInv s

theorem endCommand_rests (c : Code) (s : State) : (endCommand c s).st = .idle ∧
    restsWhenIdle (endCommand c s) = true ∧ (∀ o, PhaseFits o (endCommand c s)) ∧ doneFits (endCommand c s) = true := by
  obtain ⟨code, done, history, h⟩ := endCommand_frame c s
  rw [h]
  exact ⟨rfl, rfl, fun o => ⟨nofun, nofun⟩, rfl⟩

theorem currentInstr_eq_of_commandGroup {s t : State} (h : commandGroup t = commandGroup s) :
    t.st = s.st ∧ currentInstr t = currentInstr s ∧ doneFits t = doneFits s := by
  simp only [commandGroup, Prod.mk.injEq] at h
  obtain ⟨hst, hcmd, hport, -, hwire, -, hdone, -⟩ := h
  exact ⟨hst, by simp only [currentInstr, currentRequest, hst, hcmd, hport, hwire],
    by simp only [doneFits, hst, hwire, hdone]⟩

/-- A step of a busy block is a step on, which leaves the command in progress, or the end step. -/
theorem busyStep_goesOn_or_ends {m : Micro} (hk : Keeps commandGroup m) {s t : State} (hs : busyStep m s = some t) :
    commandGroup t = commandGroup s ∨ ∃ c u, t = endCommand c u := by
  rcases busyStep_cases hs with ⟨-, rfl⟩ | ⟨-, f, -, hf⟩ | ⟨-, rfl⟩ | ⟨-, hc⟩ | ⟨-, rfl⟩ | ⟨c, -, -, rfl⟩
  · exact .inl (hk.start s)
  · obtain ⟨sel, mpc, hb, lb, replies, ops, phase, rfl⟩ := frameStep_frame hf
    exact .inl rfl
  · exact .inl rfl
  · exact .inl (hk.compute s t hc)
  · exact .inr ⟨_, _, rfl⟩
  · exact .inr ⟨_, _, rfl⟩

theorem boundsIndex_partsOf : ∀ o, BoundsIndex (partsOf o)
  | some i => boundsIndex_microOf i
  | none => (keeps_illegalMicro fun _ _ _ => rfl).boundsIndex

theorem fitsConversion_partsOf : ∀ o, FitsConversion (partsOf o)
  | some i => fitsConversion_microOf i
  | none => (keeps_illegalMicro fun _ _ _ => rfl).fitsConversion

theorem keepsConfig_partsOf : ∀ o, KeepsConfig (partsOf o)
  | some i => keepsConfig_microOf i
  | none => keepsConfig_illegalMicro

/-- What a step keeps of the registers, wherever it leads: the configuration (R9), FIDX (R23), the conversion (R26). -/
theorem busyStep_registers {o : Option Instr} {s t : State} (hs : busyStep (partsOf o) s = some t) :
    t.cfg = s.cfg ∧ (convFits s = true → convFits t = true) ∧ (fidxFits s = true → fidxFits t = true) := by
  have hindex := boundsIndex_partsOf o
  have hconv := fitsConversion_partsOf o
  refine ⟨busyStep_cfg (keepsConfig_partsOf o) hs, fun h => ?conv, fun h => ?fidx⟩
  case conv =>
    refine busyStep_keeps _ (fun u => convFits u = true) (fun u hu => (hconv.start u).trans hu) hconv.compute
      (fun u hu => (hconv.commit u).trans hu) (fun u c hu => ?_) (fun _ _ _ _ _ _ _ _ hu => hu) s t h hs
    obtain ⟨code, done, history, he⟩ := endCommand_frame c u
    rw [he]
    exact hu
  case fidx =>
    refine decide_eq_true ?_
    exact busyStep_keeps _ (fun u => u.fidx.toNat ≤ 10) hindex.start hindex.compute hindex.commit
      (fun u c hu => by rwa [endCommand_fidx]) (fun _ _ _ _ _ _ _ _ hu => hu) s t (of_decide_eq_true h) hs

/-- Every step of a busy block keeps the invariant (R37), and only the end step leaves it IDLE. -/
theorem Working.busyStep {o : Option Instr} {s t : State} (h : Working o s) (hs : busyStep (partsOf o) s = some t) :
    (t.st = .busy ∧ Working o t) ∨ (t.st = .idle ∧ BlockInv t) := by
  obtain ⟨htiming, -, hphase, hdone, hconv, hfidx, hbus⟩ := (blockInv_iff s).1 h.inv
  rw [h.request] at hphase
  obtain ⟨hcfg, hconv', hfidx'⟩ := busyStep_registers hs
  have hbus' := busyStep_onProtocol htiming hphase.1 hbus hs
  have inv : restsWhenIdle t = true → PhaseFits (currentInstr t) t → doneFits t = true → BlockInv t := fun hr hp hd =>
    (blockInv_iff t).2 ⟨hcfg ▸ htiming, hr, hp, hd, hconv' hconv, hfidx' hfidx, hbus'⟩
  rcases busyStep_goesOn_or_ends (keeps_commandGroup (partsOf_cases o)) hs with hgroup | ⟨c, u, rfl⟩
  · obtain ⟨hst, hcur, hdone'⟩ := currentInstr_eq_of_commandGroup hgroup
    have hbusy : t.st = .busy := hst.trans h.busy
    have hcur' : currentInstr t = o := hcur.trans h.request
    refine .inl ⟨hbusy, hbusy, hcur', inv (by simp [restsWhenIdle, hbusy]) ?_ (hdone'.trans hdone)⟩
    rw [hcur']
    exact busyStep_phaseFits hphase hs hbusy
  · obtain ⟨hidle, hrest, hphase', hdone'⟩ := endCommand_rests c u
    exact .inr ⟨hidle, inv hrest (hphase' _) hdone'⟩

theorem blockInv_blockReset {s : State} (h : BlockInv s) : BlockInv (blockReset s) :=
  blockInv_reset s.cfg h.1

theorem currentInstr_accept (r : Request) (s : State) : currentInstr (accept r s) = (decode r).toOption := by
  cases r <;> rfl

/-- Acceptance (R35) keeps the invariant: the block at rest has SEL 0, and DONE is cleared. -/
theorem working_accept {s : State} (h : BlockInv s) (hidle : s.st = .idle) (r : Request) :
    Working (decode r).toOption (accept r s) := by
  obtain ⟨htiming, hrest, -, -, hconv, hfidx, hbus⟩ := (blockInv_iff s).1 h
  obtain ⟨⟨-, hdecode⟩, -⟩ : (s.mpc = 0 ∧ s.phase = .decode) ∧ s.wire = none := by
    simpa [restsWhenIdle, hidle] using hrest
  have hstage : stageOf s = .between := by simp [stageOf, hdecode]
  refine ⟨by cases r <;> rfl, currentInstr_accept r s, (blockInv_iff _).2 ?_⟩
  cases r <;> exact ⟨htiming, rfl, ⟨nofun, nofun⟩, rfl, hconv, hfidx, hbus.quiet hstage.symm rfl rfl⟩

/-- A run from `P` whose steps stay in `P` or end in `Q`, and whose reset ends in `Q`, stops in `P` or ends in `Q`. -/
theorem drive_to_or_reset (m : Micro) (P Q : State → Prop) (hr : ∀ s, P s → Q (blockReset s))
    (hc : ∀ s, P s → P (countDown s))
    (hs : ∀ s t, P s → busyStep m s = some t → (t.st = .busy ∧ P t) ∨ (t.st = .idle ∧ Q t)) (n : Nat) (s : State)
    (h : P s) : P (drive m n s) ∨ Q (drive m n s) := by
  induction n generalizing s with
  | zero => exact .inl h
  | succ n ih =>
    unfold drive
    split
    · exact .inr (hr s h)
    · split
      · exact .inl (hc s h)
      · rename_i t ht
        rcases hs _ t (hc s h) ht with ⟨hbusy, hP⟩ | ⟨hidle, hQ⟩
        · rw [if_neg (by simp [hbusy])]
          exact ih t hP
        · rw [if_pos hidle]
          exact .inr hQ

theorem Working.drive {o : Option Instr} {s : State} (h : Working o s) (n : Nat) :
    BlockInv (drive (partsOf o) n s) :=
  (drive_to_or_reset (partsOf o) (Working o) BlockInv (fun _ hu => blockInv_blockReset hu.inv)
    (fun _ hu => ⟨hu.busy, hu.request, hu.inv⟩) (fun _ _ hu hs => hu.busyStep hs) n s h).elim Working.inv id

/-- Running the parts of the request in progress, or of the one accepted, keeps the invariant. -/
theorem perform_blockInv {o : Option Instr} {s : State} {r : Request} (h : BlockInv s)
    (hbusy : s.st = .busy → currentInstr s = o) (haccept : (decode r).toOption = o) :
    BlockInv (perform r (partsOf o) s) := by
  unfold perform
  split
  · rename_i hst
    exact Working.drive ⟨hst, hbusy hst, h⟩ _
  · rename_i hst
    have hidle : s.st = .idle := by cases hs : s.st <;> simp_all
    split
    · exact blockInv_blockReset h
    · subst haccept
      exact (working_accept (s := countDown s) h hidle r).drive _

theorem decodeFrame_read (a : Addr) (v : Half) : decodeFrame (headerByte true a) v = .frameRead a := by
  rw [decodeFrame, if_pos (headerByte_dir true a), headerByte_addr]

theorem decodeFrame_write (a : Addr) (v : Half) : decodeFrame (headerByte false a) v = .frameWrite a v := by
  rw [decodeFrame, if_neg (by rw [headerByte_dir]; decide), headerByte_addr]

/-- What a request decodes to is what its encoding decodes to: a frame's data is no part of a READ frame. -/
theorem decode_encode_of_decode {r : Request} {i : Instr} (h : decode r = .ok i) : decode (encode i) = .ok i := by
  cases r with
  | command w => rwa [encode_of_decodeCommand h]
  | frame hd d =>
    obtain rfl : decodeFrame hd d = i := Except.ok.inj h
    unfold decodeFrame
    split
    · exact congrArg Except.ok (decodeFrame_read _ 0)
    · exact congrArg Except.ok (decodeFrame_write _ d)

theorem waitIdle_blockInv {s : State} (h : BlockInv s) : BlockInv (waitIdle s) := by
  unfold waitIdle
  split
  · exact blockInv_blockReset h
  · exact h

/-- Settles O45: a step waits, or runs the parts of the request in progress or accepted, and each of those keeps every
part of the invariant. -/
theorem stepKeepsTheInvariant : Obligations.StepKeepsTheInvariant := by
  intro s t h hstep
  obtain ⟨-, ⟨-, rfl⟩ | ⟨r, hr, ⟨i, hi, rfl⟩ | ⟨e, he, rfl⟩⟩⟩ := step_cases hstep
  · exact waitIdle_blockInv h
  · refine perform_blockInv (o := some i) h (fun _ => ?_) ?_
    · simp [currentInstr, hr, hi, Except.toOption]
    · rw [decode_encode_of_decode hi]
      rfl
  · refine perform_blockInv (o := none) h (fun _ => ?_) ?_
    · simp [currentInstr, hr, he, Except.toOption]
    · rw [he]
      rfl

end Sys2Proof.Proofs

/-! PROOFS. The register link (40_register_link.md): what READ, WRITE and the bare frames leave, complete, refused or
aborted; the eight operations of a frame (R80); READ after WRITE on the test double (R84); the delay minima (R77). -/

namespace Sys2Proof.Proofs

open Sys2Proof.Machine Sys2Proof.Safety Sys2Proof.Expect

/-! ### The bytes of a frame, as the spec writes them -/

/-- The three bytes a frame sends, as the spec's formulas take them (R64). -/
def sentBytes (f : Frame) : Byte × Byte × Byte := (f.header, f.b1, f.b2)

theorem sentBytes_readFrame (c : Config) (a : Addr) : sentBytes (readFrame c a) = readBytes c a := by
  rw [sentBytes, readFrame, headerByte_read, readBytes]

theorem hiByte_eq (v : Half) : hiByte v = BitVec.ofNat 8 (v.toNat / 256) := by
  have := v.isLt
  apply BitVec.eq_of_toNat_eq
  rw [toNat_hiByte, BitVec.toNat_ofNat]
  omega

theorem loByte_eq (v : Half) : loByte v = BitVec.ofNat 8 (v.toNat % 256) := by
  apply BitVec.eq_of_toNat_eq
  rw [toNat_loByte, BitVec.toNat_ofNat]
  omega

theorem sentBytes_writeFrame (a : Addr) (v : Half) : sentBytes (writeFrame a v) = writeBytes a v := by
  rw [sentBytes, writeFrame, headerByte_write, hiByte_eq, loByte_eq, writeBytes]

theorem abortTrace_eq (c : Config) (f : Frame) : ∀ got, abortTrace c f got = abortOps c (sentBytes f) got
  | [] | [_] | _ :: _ :: _ => rfl

/-- The word of R66 as a number. -/
theorem commandWord_eq_word (op : BitVec 8) (a : Addr) (v : Half) :
    commandWord op a v = word op.toNat a.toNat v.toNat := by
  have := op.isLt; have := a.isLt; have := v.isLt
  apply BitVec.eq_of_toNat_eq
  simp only [commandWord, word, toNat_append_eq, BitVec.toNat_ofNat]
  omega

/-! ### A request that sends one frame -/

/-- The state once a request's frame is to begin: accepted and decoded. -/
def frameStart (q : Request) (s : State) : State := startFrame (accept q s)

section
variable {m : Micro} {q : Request} {f : Frame} {s : State} (hready : Ready s)
  (hstart : m.start (accept q s) = frameStart q s) (hsend : ∀ t : State, t.cfg = s.cfg → m.send t = some f)

theorem accept_st (q : Request) (s : State) : (accept q s).st = .busy := by cases q <;> rfl

theorem accept_resetIn (q : Request) (s : State) : (accept q s).resetIn = s.resetIn := by cases q <;> rfl

theorem accept_replies (q : Request) (s : State) : (accept q s).replies = s.replies := by cases q <;> rfl

theorem accept_phase (q : Request) (s : State) : (accept q s).phase = .decode := by cases q <;> rfl

include hready

/-- The decode step of a presented request (R36). -/
theorem perform_decode {u : State} (hu : m.start (accept q s) = u) (hbusy : u.st = .busy) :
    perform q m s = drive m 159 u := by
  rw [perform_idle q m s hready.1 hready.2]
  exact drive_go m 159 _ u ((accept_resetIn q s).trans hready.2) (by simp [busyStep, accept_phase, hu]) hbusy

/-- A request that is refused at decode ends there, with no operation (R69, R141). -/
theorem perform_raised {c : Code} (hc : c ≠ .ok) (hu : m.start (accept q s) = raise c (accept q s)) :
    perform q m s = endCommand c (raise c (accept q s)) := by
  rw [perform_decode hready hu (accept_st q s)]
  rw [drive_end m 158 _ c (by exact (accept_resetIn q s).trans hready.2) rfl, if_neg hc]

include hstart hsend

/-- With its three bytes to come, a request runs to the end of its frame, with steps enough left (R75). -/
theorem perform_frame (r : Byte × Byte × Byte) (rest : List Reply) (hr : s.replies = repliesTo r ++ rest) :
    ∃ n, perform q m s = drive m (n + 2) (afterFrame m f r.1 r.2.1 r.2.2 rest (frameStart q s)) := by
  obtain ⟨k, hk, hrun⟩ := drive_frame m f (frameStart q s)
    (fun t hc _ => hsend t (hc.trans (accept_cfg s q))) (accept_st q s) ((accept_resetIn q s).trans hready.2) rfl
    r.1 r.2.1 r.2.2 rest rfl ((accept_replies q s).trans hr)
  refine ⟨157 - k, ?_⟩
  rw [← hrun, perform_decode hready hstart (accept_st q s)]
  congr 1
  omega

/-- A request that ends with its frame (R82, R83). -/
theorem perform_frame_end (hafter : m.afterFrame = .finish .ok) (r : Byte × Byte × Byte) (rest : List Reply)
    (hr : s.replies = repliesTo r ++ rest) : perform q m s =
      endCommand .ok (m.commit (afterFrame m f r.1 r.2.1 r.2.2 rest (frameStart q s))) := by
  obtain ⟨n, hn⟩ := perform_frame hready hstart hsend r rest hr
  rw [hn, drive_end m (n + 1) _ .ok (by exact (accept_resetIn q s).trans hready.2) hafter, if_pos rfl]

/-- A request with a conversion after its frame (R108). -/
theorem perform_frame_compute {u : State} (hafter : m.afterFrame = .compute) (r : Byte × Byte × Byte)
    (rest : List Reply) (hr : s.replies = repliesTo r ++ rest)
    (hcompute : m.compute (afterFrame m f r.1 r.2.1 r.2.2 rest (frameStart q s)) = some u) (hst : u.st = .busy)
    (hreset : u.resetIn = none) (hu : u.phase = .finish .ok) :
    perform q m s = endCommand .ok (m.commit u) := by
  obtain ⟨n, hn⟩ := perform_frame hready hstart hsend r rest hr
  have hstep : busyStep m (afterFrame m f r.1 r.2.1 r.2.2 rest (frameStart q s)) = some u := by
    simpa [busyStep, afterFrame, hafter] using hcompute
  rw [hn, drive_go m (n + 1) _ u (by exact (accept_resetIn q s).trans hready.2) hstep hst,
    drive_end m n u .ok hreset hu, if_pos rfl]

/-- A request whose frame has an exchange that fails ends in BusError (R76). -/
theorem perform_frame_abort (got : List Byte) (rest : List Reply) (hg : got.length ≤ 2)
    (hr : s.replies = got.map .byte ++ .busError :: rest) :
    perform q m s = endCommand .busError (afterAbort f got rest (frameStart q s)) := by
  obtain ⟨k, hk, hrun⟩ := drive_abort m f (frameStart q s)
    (fun t hc _ => hsend t (hc.trans (accept_cfg s q))) (accept_st q s) ((accept_resetIn q s).trans hready.2) rfl
    got rest rfl hg ((accept_replies q s).trans hr)
  rw [perform_decode hready hstart (accept_st q s), show 159 = 158 - k + 1 + k by omega, hrun,
    drive_end m _ _ .busError (by exact (accept_resetIn q s).trans hready.2) rfl, if_neg nofun]

end

/-! ### What the end step leaves of a frame -/

theorem with_st_idle {s : State} (h : s.st = .idle) : { s with st := .idle } = s := by rw [← h]

section
variable {s : State} (hidle : s.st = .idle) (w : Word) (h : Byte) (d : Half) (f : Frame)
include hidle

/-- A command's frame that completed leaves its marks on the state of the ended command (R36, R75). -/
theorem endCommand_afterFrame (m : Micro) (r : Byte × Byte × Byte) (rest : List Reply) :
    endCommand .ok (afterFrame m f r.1 r.2.1 r.2.2 rest (frameStart (.command w) s)) =
      framed (sentBytes f) r rest (ended w .ok s) := by
  conv_rhs => rw [← with_st_idle hidle]
  rfl

/-- A command's frame that aborted leaves its marks on the state of the command ended in BusError (R76, R145). -/
theorem endCommand_afterAbort (got : List Byte) (rest : List Reply) :
    endCommand .busError (afterAbort f got rest (frameStart (.command w) s)) =
      aborted (sentBytes f) got rest (ended w .busError s) := by
  rw [afterAbort, abortTrace_eq]
  conv_rhs => rw [← with_st_idle hidle]
  rfl

/-- A bare frame that completed leaves its marks, and no status (notes/assumptions/10.md). -/
theorem endCommand_afterFrame_bare (m : Micro) (r : Byte × Byte × Byte) (rest : List Reply) :
    endCommand .ok (afterFrame m f r.1 r.2.1 r.2.2 rest (frameStart (.frame h d) s)) =
      { framed (sentBytes f) r rest s with port := s.port.tail, mpc := 0, phase := .decode, wire := none } := by
  conv_rhs => rw [← with_st_idle hidle]
  rfl

/-- A bare frame that aborted leaves its marks, and STATUS (R76, R145). -/
theorem endCommand_afterAbort_bare (got : List Byte) (rest : List Reply) :
    endCommand .busError (afterAbort f got rest (frameStart (.frame h d) s)) =
      { aborted (sentBytes f) got rest s with
        port := s.port.tail, mpc := 0, phase := .decode, wire := none, code := .busError, done := true } := by
  rw [afterAbort, abortTrace_eq]
  conv_rhs => rw [← with_st_idle hidle]
  rfl

/-- A bare frame that is refused leaves STATUS alone written (notes/assumptions/11.md). -/
theorem endCommand_raise_bare :
    endCommand .invalidAddress (raise .invalidAddress (accept (.frame h d) s)) = { s with
      port := s.port.tail, mpc := 0, phase := .decode, wire := none, code := .invalidAddress, done := true } := by
  conv_rhs => rw [← with_st_idle hidle]
  rfl

end

/-! ### READ and WRITE -/

theorem encode_read (a : Addr) : encode (.read a) = .command (word 0x01 a.toNat 0) :=
  congrArg Request.command (commandWord_eq_word 0x01 a 0)

theorem encode_write (a : Addr) (v : Half) : encode (.write a v) = .command (word 0x02 a.toNat v.toNat) :=
  congrArg Request.command (commandWord_eq_word 0x02 a v)

theorem send_readMicro {a : Addr} {s t : State} (h : t.cfg = s.cfg) :
    (readMicro a).send t = some (readFrame s.cfg a) := by rw [← h]; rfl

/-- Settles O13: the frame's bytes are committed to RDATA at the end step (R82). -/
theorem readReturnsTheRegister : Obligations.ReadReturnsTheRegister := by
  intro s a r rest hready ha hr
  have hrun : perform (.command (word 0x01 a.toNat 0)) (readMicro a) s = _ :=
    perform_frame_end hready (if_pos ha) (fun t => send_readMicro) rfl r rest hr
  rw [exec_eq, encode_read, microOf, hrun, ← sentBytes_readFrame,
    ← endCommand_afterFrame hready.1 _ _ (readMicro a)]
  rfl

/-- Settles O14: the frame carries the value, and its end commits nothing (R83). -/
theorem writeSendsTheValue : Obligations.WriteSendsTheValue := by
  intro s a v r rest hready ha hr
  have hrun : perform (.command (word 0x02 a.toNat v.toNat)) (writeMicro a v) s = _ :=
    perform_frame_end hready (if_pos ha) (fun _ _ => rfl) rfl r rest hr
  rw [exec_eq, encode_write, microOf, hrun, ← sentBytes_writeFrame,
    ← endCommand_afterFrame hready.1 _ _ (writeMicro a v)]
  rfl

/-! ### The bare frames -/

theorem send_frameReadMicro {a : Addr} {s t : State} (h : t.cfg = s.cfg) :
    (frameReadMicro a).send t = some (readFrame s.cfg a) := by rw [← h]; rfl

/-- Settles O16: the frame runs as a command's does, and its end step writes no status. -/
theorem bareFrameLeavesTheTwoBytes : Obligations.BareFrameLeavesTheTwoBytes := by
  refine ⟨fun s a r rest hready ha hr => ?read, fun s a v r rest hready ha hr => ?write⟩
  case read =>
    have hrun : perform (.frame (headerByte true a) 0) (frameReadMicro a) s = _ :=
      perform_frame_end hready (if_pos ha) (fun t => send_frameReadMicro) rfl r rest hr
    rw [exec_eq, encode, microOf, hrun, ← sentBytes_readFrame,
      ← endCommand_afterFrame_bare hready.1 (headerByte true a) 0 _ (frameReadMicro a)]
    rfl
  case write =>
    have hrun : perform (.frame (headerByte false a) v) (frameWriteMicro a v) s = _ :=
      perform_frame_end hready (if_pos ha) (fun _ _ => rfl) rfl r rest hr
    rw [exec_eq, encode, microOf, hrun, ← sentBytes_writeFrame,
      ← endCommand_afterFrame_bare hready.1 (headerByte false a) v _ (frameWriteMicro a v)]
    rfl

/-- Settles O17: a refused frame is never started, and a failing exchange aborts it as it does a command's. -/
theorem bareFrameErrors : Obligations.BareFrameErrors := by
  refine ⟨fun s a v hready => ⟨fun ha => ?refusedRead, fun ha => ?refusedWrite⟩,
    fun s a v got rest hready hg hr => ⟨fun ha => ?abortedRead, fun ha => ?abortedWrite⟩⟩
  case refusedRead =>
    rw [exec_eq, encode, microOf, perform_raised hready (c := .invalidAddress) nofun (if_neg (by simp [ha])),
      endCommand_raise_bare hready.1]
  case refusedWrite =>
    rw [exec_eq, encode, microOf, perform_raised hready (c := .invalidAddress) nofun (if_neg (by simp [ha])),
      endCommand_raise_bare hready.1]
  case abortedRead =>
    rw [exec_eq, encode, microOf, perform_frame_abort hready (if_pos ha) (fun t => send_frameReadMicro) got rest hg hr,
      endCommand_afterAbort_bare hready.1, sentBytes_readFrame]
  case abortedWrite =>
    rw [exec_eq, encode, microOf, perform_frame_abort hready (if_pos ha) (fun _ _ => rfl) got rest hg hr,
      endCommand_afterAbort_bare hready.1, sentBytes_writeFrame]

/-! ### Eight operations -/

/-- R80: with both pauses skipped, a frame that completes is eight operations. -/
theorem frameOps_eight {c : Config} (hdata : c.tData = 0) (hgap : c.tGap = 0) (b r : Byte × Byte × Byte) :
    frameOps c b r = [.selAssert, .delayUs c.tPre, .xchg b.1 (.byte r.1), .delayUs c.tHdr, .xchg b.2.1 (.byte r.2.1),
      .xchg b.2.2 (.byte r.2.2), .delayUs c.tPost, .selDeassert] := by
  simp [frameOps, pause, hdata, hgap]

/-- The rows of R95 and R109 to R122 name MEAS.q by its quantity. -/
theorem eq_measInstr_of_mem_measTable : ∀ e ∈ measTable, e.1 = measInstr e.2.1 := by decide

/-- R44, R45 and R95 give one address for each quantity. -/
theorem measAddr_eq (m : MeasMap) (k : Quantity) : measAddr m k = BitVec.ofNat 7 (registerOf m k) := by
  cases m <;> cases k <;> rfl

theorem microOf_measInstr (k : Quantity) : microOf (measInstr k) = measMicro k := by cases k <;> rfl

theorem encode_measInstr (k : Quantity) : encode (measInstr k) = measRequest k := by cases k <;> rfl

/-- The commands of one frame (R82, R83, R108), with the bytes they send. -/
theorem oneFrame_cases {c : Config} {i : Instr} {b : Byte × Byte × Byte} (h : oneFrame c i = some b) :
    (∃ a, i = .read a ∧ readable a = true ∧ b = readBytes c a) ∨
    (∃ a v, i = .write a v ∧ writable a = true ∧ b = writeBytes a v) ∨
    ∃ k, i = measInstr k ∧ b = readBytes c (measAddr c.measMap k) := by
  unfold oneFrame at h
  split at h
  · rename_i a
    obtain ⟨ha, hb⟩ := Option.ite_none_right_eq_some.1 h
    exact .inl ⟨a, rfl, ha, (Option.some.inj hb).symm⟩
  · rename_i a v
    obtain ⟨ha, hb⟩ := Option.ite_none_right_eq_some.1 h
    exact .inr (.inl ⟨a, v, rfl, ha, (Option.some.inj hb).symm⟩)
  · obtain ⟨e, he, rfl⟩ := Option.map_eq_some_iff.1 h
    have hi : e.1 = i := by simpa using List.find?_some he
    refine .inr (.inr ⟨e.2.1, ?_, by rw [measAddr_eq]⟩)
    rw [← hi]
    exact eq_measInstr_of_mem_measTable e (List.mem_of_find?_eq_some he)

/-- A MEAS.q with its three bytes to come: its frame's marks, RDATA, and the converted pair (R108). -/
theorem exec_measInstr_ok {s : State} (hready : Ready s) (k : Quantity) (r : Byte × Byte × Byte) (rest : List Reply)
    (hr : s.replies = repliesTo r ++ rest) : exec (measInstr k) s =
      .next (writeConv k (convert s.cfg (r.2.1 ++ r.2.2) k) (writeRData (r.2.1 ++ r.2.2)
        (framed (readBytes s.cfg (measAddr s.cfg.measMap k)) r rest (ended (commandWord (measOp k) 0 0) .ok s)))) := by
  have hsend : ∀ t : State, t.cfg = s.cfg →
      (measMicro k).send t = some (readFrame s.cfg (measAddr s.cfg.measMap k)) := fun t ht => by rw [← ht]; rfl
  have hrun : perform (measRequest k) (measMicro k) s = _ :=
    perform_frame_compute hready rfl hsend rfl r rest hr rfl rfl (by exact hready.2) rfl
  rw [exec_eq, encode_measInstr, microOf_measInstr, hrun, ← sentBytes_readFrame,
    ← endCommand_afterFrame hready.1 _ _ (measMicro k)]
  rfl

/-- Settles O19: the three kinds of one-frame command leave their frame's operations, and those are eight. -/
theorem frameEmitsEightOperations : Obligations.FrameEmitsEightOperations := by
  refine ⟨fun s i b r rest hready hdata hgap hb hr => ?_, fun c b r hdata hgap => frameOps_eight hdata hgap b r⟩
  rw [← frameOps_eight hdata hgap]
  obtain ⟨a, rfl, ha, rfl⟩ | ⟨a, v, rfl, ha, rfl⟩ | ⟨k, rfl, rfl⟩ := oneFrame_cases hb
  · exact ⟨_, readReturnsTheRegister s a r rest hready ha hr, rfl, rfl⟩
  · exact ⟨_, writeSendsTheValue s a v r rest hready ha hr, rfl, rfl⟩
  · exact ⟨_, exec_measInstr_ok hready k r rest hr, rfl, rfl⟩

/-! ### WRITE and READ on the test double -/

/-! What the double makes of a trace, by its first operation (R60). -/

section
variable (d : Double) (os : List Op)

theorem doubleRun_selAssert : doubleRun d (.selAssert :: os) = doubleRun ⟨d.regs, []⟩ os := rfl

theorem doubleRun_selDeassert : doubleRun d (.selDeassert :: os) = doubleRun ⟨d.regs, []⟩ os := rfl

theorem doubleRun_delayUs (n : Nat) : doubleRun d (.delayUs n :: os) = doubleRun d os := rfl

theorem doubleRun_pause (n : Nat) : doubleRun d (pause n ++ os) = doubleRun d os := by
  unfold pause
  split <;> rfl

theorem doubleRun_xchg (out b : Byte) (d' : Double) : doubleRun d (.xchg out (.byte b) :: os) = some d' ↔
    doubleAnswer d = some b ∧ doubleRun (doubleTake d out) os = some d' := by
  by_cases h : doubleAnswer d = some b <;> simp [doubleRun, doubleOp, h]

end

/-- A complete frame on the double (R60): the data bytes received are its answers, and the last byte sent may store. -/
theorem doubleRun_frameOps {d d' : Double} {c : Config} {b r : Byte × Byte × Byte}
    (h : doubleRun d (frameOps c b r) = some d') :
    doubleAnswer ⟨d.regs, [b.1]⟩ = some r.2.1 ∧ doubleAnswer ⟨d.regs, [b.1, b.2.1]⟩ = some r.2.2 ∧
      d'.regs = (doubleTake ⟨d.regs, [b.1, b.2.1]⟩ b.2.2).regs := by
  rw [← List.append_nil (frameOps c b r)] at h
  simp only [frameOps, List.append_assoc, List.cons_append, List.nil_append, doubleRun_selAssert, doubleRun_delayUs,
    doubleRun_pause, doubleRun_xchg, doubleRun_selDeassert] at h
  obtain ⟨-, hfirst, hlast, hend⟩ := h
  exact ⟨hfirst, hlast, (congrArg Double.regs (Option.some.inj hend)).symm⟩

/-- A WRITE frame to a configuration register stores its value (R60). -/
theorem doubleTake_writeBytes (m : Registers) {a : Addr} (v : Half) (ha : inConfigClass a = true) :
    (doubleTake ⟨m, [(writeBytes a v).1, (writeBytes a v).2.1]⟩ (writeBytes a v).2.2).regs =
      writeRegister m a.toNat v := by
  rw [← sentBytes_writeFrame]
  simp only [sentBytes, writeFrame, doubleTake, headerAddr, headerByte_dir, headerByte_addr, ha, joinBytes_hi_lo,
    Bool.not_false, Bool.and_self, if_true]

/-- A READ frame is answered with the stored value, high byte first (R60). -/
theorem doubleAnswer_readBytes (m : Registers) (c : Config) (a : Addr) :
    doubleAnswer ⟨m, [(readBytes c a).1]⟩ = (readRegister m a.toNat).map hiByte ∧
    doubleAnswer ⟨m, [(readBytes c a).1, (readBytes c a).2.1]⟩ = (readRegister m a.toNat).map loByte := by
  rw [← sentBytes_readFrame]
  simp only [sentBytes, readFrame, doubleAnswer, headerAddr, headerByte_dir, headerByte_addr, if_true, and_self]

/-! ### A command of one frame that ended OK -/

/-- What BusTransport may have answered to one frame: three bytes, a failure after at most two, or too little. -/
theorem replies_cases (l : List Reply) : (∃ r rest, l = repliesTo r ++ rest) ∨
    (∃ (got : List Byte) (rest : List Reply), got.length ≤ 2 ∧ l = got.map .byte ++ .busError :: rest) ∨
    ∃ got : List Byte, got.length ≤ 2 ∧ l = got.map .byte := by
  match l with
  | [] => exact .inr (.inr ⟨[], by simp, rfl⟩)
  | .busError :: rest => exact .inr (.inl ⟨[], rest, by simp, rfl⟩)
  | [.byte x] => exact .inr (.inr ⟨[x], by simp, rfl⟩)
  | .byte x :: .busError :: rest => exact .inr (.inl ⟨[x], rest, by simp, rfl⟩)
  | [.byte x, .byte y] => exact .inr (.inr ⟨[x, y], by simp, rfl⟩)
  | .byte x :: .byte y :: .busError :: rest => exact .inr (.inl ⟨[x, y], rest, by simp, rfl⟩)
  | .byte x :: .byte y :: .byte z :: rest => exact .inl ⟨(x, y, z), rest, rfl⟩

/-- An instruction that ends in BusError wherever an exchange of its frame fails has had its three bytes where it ended
OK: with fewer it waits, and a failure that comes later ends it in BusError too (R37). -/
theorem repliesTo_of_ok {i : Instr} {s t : State} (hready : Ready s)
    (habort : ∀ (got : List Byte) (rest : List Reply), got.length ≤ 2 →
      ∃ v, exec i { s with replies := got.map .byte ++ .busError :: rest } = .next v ∧ v.code = .busError)
    (h : exec i s = .next t) (hidle : t.st = .idle) (hok : t.code = .ok) :
    ∃ r rest, s.replies = repliesTo r ++ rest := by
  rcases replies_cases s.replies with hthree | ⟨got, rest, hg, hr⟩ | ⟨got, hg, hr⟩
  · exact hthree
  · obtain ⟨v, hv, hcode⟩ := habort got rest hg
    rw [← hr, h] at hv
    obtain rfl : t = v := Host.Outcome.next.inj hv
    simp [hok] at hcode
  · obtain ⟨v, hv, hcode⟩ := habort got [] hg
    have hlater := (answersMayComeLater i s t [.busError] hready h).1 hidle
    rw [hr, hv] at hlater
    obtain rfl := Host.Outcome.next.inj hlater
    simp [hok] at hcode

/-- A READ whose frame has an exchange that fails ends in BusError (R76, R140). -/
theorem exec_read_abort {s : State} {a : Addr} (hready : Ready s) (ha : readable a = true) {got : List Byte}
    {rest : List Reply} (hg : got.length ≤ 2) (hr : s.replies = got.map .byte ++ .busError :: rest) :
    exec (.read a) s = .next (aborted (readBytes s.cfg a) got rest (ended (word 0x01 a.toNat 0) .busError s)) := by
  rw [exec_eq, encode_read, microOf, perform_frame_abort hready (if_pos ha) (fun t => send_readMicro) got rest hg hr,
    endCommand_afterAbort hready.1, sentBytes_readFrame]

/-- A WRITE whose frame has an exchange that fails ends in BusError (R76, R140). -/
theorem exec_write_abort {s : State} {a : Addr} (v : Half) (hready : Ready s) (ha : writable a = true) {got : List Byte}
    {rest : List Reply} (hg : got.length ≤ 2) (hr : s.replies = got.map .byte ++ .busError :: rest) :
    exec (.write a v) s =
      .next (aborted (writeBytes a v) got rest (ended (word 0x02 a.toNat v.toNat) .busError s)) := by
  rw [exec_eq, encode_write, microOf, perform_frame_abort hready (if_pos ha) (fun _ _ => rfl) got rest hg hr,
    endCommand_afterAbort hready.1, sentBytes_writeFrame]

/-- A READ that ended OK is the whole next state of R82. -/
theorem read_of_ok {s t : State} {a : Addr} (hready : Ready s) (ha : readable a = true)
    (h : exec (.read a) s = .next t) (hidle : t.st = .idle) (hok : t.code = .ok) : ∃ r rest,
    t = { framed (readBytes s.cfg a) r rest (ended (word 0x01 a.toNat 0) .ok s) with
      rdata := r.2.1 ++ r.2.2, rdataValid := true } := by
  obtain ⟨r, rest, hr⟩ := repliesTo_of_ok hready (fun got rest hg =>
    ⟨_, exec_read_abort (s := { s with replies := got.map .byte ++ .busError :: rest }) hready ha hg rfl, rfl⟩)
    h hidle hok
  rw [readReturnsTheRegister s a r rest hready ha hr] at h
  exact ⟨r, rest, (Host.Outcome.next.inj h).symm⟩

/-- A WRITE that ended OK is the whole next state of R83. -/
theorem write_of_ok {s t : State} {a : Addr} {v : Half} (hready : Ready s) (ha : writable a = true)
    (h : exec (.write a v) s = .next t) (hidle : t.st = .idle) (hok : t.code = .ok) : ∃ r rest,
    t = framed (writeBytes a v) r rest (ended (word 0x02 a.toNat v.toNat) .ok s) := by
  obtain ⟨r, rest, hr⟩ := repliesTo_of_ok hready (fun got rest hg =>
    ⟨_, exec_write_abort (s := { s with replies := got.map .byte ++ .busError :: rest }) v hready ha hg rfl, rfl⟩)
    h hidle hok
  rw [writeSendsTheValue s a v r rest hready ha hr] at h
  exact ⟨r, rest, (Host.Outcome.next.inj h).symm⟩

/-- Settles O20: the WRITE frame stores the value in the double, and the READ frame's bytes are the double's answers. -/
theorem writeThenReadOnTheDouble : Obligations.WriteThenReadOnTheDouble := by
  intro s t u a v d d1 d2 rs hready ha hwrite htidle htok hd1 hread huidle huok hd2
  have hw : writable a = true := (writable_iff a).2 ha
  have hr : readable a = true := (readable_iff a).2 (.inl ha)
  obtain ⟨r, rest, ht⟩ := write_of_ok hready hw hwrite htidle htok
  have hreset : t.resetIn = none := by rw [ht]; exact hready.2
  have hsent : t.trace = s.trace ++ frameOps s.cfg (writeBytes a v) r := by rw [ht]; rfl
  obtain ⟨r', rest', hu⟩ := read_of_ok (s := { t with replies := rs }) ⟨htidle, hreset⟩ hr hread huidle huok
  have hgot : u.trace = t.trace ++ frameOps t.cfg (readBytes t.cfg a) r' := by rw [hu]; rfl
  have hdata : u.rdata = r'.2.1 ++ r'.2.2 ∧ u.rdataValid = true := by rw [hu]; exact ⟨rfl, rfl⟩
  rw [hsent, List.drop_left] at hd1
  rw [hgot, List.drop_left] at hd2
  obtain ⟨-, -, hregs⟩ := doubleRun_frameOps hd1
  obtain ⟨hhi, hlo, -⟩ := doubleRun_frameOps hd2
  obtain ⟨hanswer, hanswer'⟩ := doubleAnswer_readBytes d1.regs t.cfg a
  rw [doubleTake_writeBytes d.regs v hw] at hregs
  rw [hanswer, hregs, readRegister_writeRegister_same] at hhi
  rw [hanswer', hregs, readRegister_writeRegister_same] at hlo
  rw [hdata.1, ← Option.some.inj hhi, ← Option.some.inj hlo]
  exact ⟨joinBytes_hi_lo v, hdata.2⟩

/-! ### Instances below the minima -/

theorem timingOk_eq_false_iff (c : Config) : c.timingOk = false ↔ c.tPre < 5 ∨ c.tHdr < 4 ∨ c.tPost < 5 := by
  rw [← Bool.not_eq_true, timingOk_iff]
  omega

/-- Settles O11: building and every step test the minima of R77 and nothing else. -/
theorem invalidInstanceRefused : Obligations.InvalidInstanceRefused := by
  refine ⟨fun c h => ?_, fun s h => ?_, fun c hpre hhdr hpost => ?_, fun s hpre hhdr hpost => ?_⟩
  · rw [State.build, (timingOk_eq_false_iff c).2 h]
    rfl
  · rw [step, (timingOk_eq_false_iff s.cfg).2 h]
    rfl
  · rw [State.build, (timingOk_iff c).2 ⟨hpre, hhdr, hpost⟩]
    rfl
  · exact ⟨_, step_eq s ((timingOk_iff s.cfg).2 ⟨hpre, hhdr, hpost⟩)⟩

end Sys2Proof.Proofs

/-! PROOFS. A checksum command that fails (41_checksum.md R89): the fold's loop up to any of its frames, and the abort
of that frame. -/

namespace Sys2Proof.Proofs

open Sys2Proof.Machine Sys2Proof.Safety Sys2Proof.Expect

/-! ### The fold's loop up to one of its frames -/

/-- The state at a frame of a fold of the registers from `b` up, the ones before it having answered `rs` since the
state `s` of the first frame. R89 says nothing of the registers that a fold works in; they are arguments. -/
def atFrame (b : Nat) (rs : List (Byte × Byte × Byte)) (more : List Reply) (sel : Bool) (hi lo sum8 xor8 : Byte)
    (s : State) : State :=
  { s with sel := sel, hb := hi, lb := lo, sum8 := sum8, xor8 := xor8, fidx := BitVec.ofNat 4 rs.length,
           replies := more, trace := s.trace ++ foldOps s.cfg b rs }

/-- With the answers `rs` used and registers still to read, a fold stands at its next frame (R85, R88). -/
theorem drive_to_frame (base : Addr) (count : Nat) (hcount : count ≤ 11) (rs : List (Byte × Byte × Byte))
    (more : List Reply) (s : State) (hb : s.st = .busy) (hn : s.resetIn = none) (hp : s.phase = .frame)
    (hm : s.mpc = 0) (hidx : s.fidx = 0) (hlt : rs.length < count) (hr : s.replies = repliesToAll rs ++ more) :
    ∃ k sel hi lo sum8 xor8, k ≤ 11 * rs.length ∧ ∀ n, drive (foldMicro base count) (n + k) s =
      drive (foldMicro base count) n (atFrame base.toNat rs more sel hi lo sum8 xor8 s) := by
  have hzero : s.fidx.toNat = 0 := congrArg BitVec.toNat hidx
  cases hlast : rs.getLast? with
  | none =>
    obtain rfl : rs = [] := List.getLast?_eq_none_iff.1 hlast
    have hsame : atFrame base.toNat [] more s.sel s.hb s.lb s.sum8 s.xor8 s = s := by
      have hmore : more = s.replies := hr.symm
      rw [atFrame, foldOps_nil, List.append_nil, hmore, show BitVec.ofNat 4 [].length = s.fidx from hidx.symm]
    exact ⟨0, _, _, _, _, _, Nat.zero_le _, fun n => by rw [hsame]; rfl⟩
  | some last =>
    obtain ⟨k, hk, hrun⟩ := drive_registers base count hcount rs last more hlast s hb hn hp hm (by omega) hr
    have hnext : nextRegister count (folded base.toNat rs last more s) =
        startFrame (folded base.toNat rs last more s) := by
      refine if_pos ?_
      simp only [folded, BitVec.toNat_add, BitVec.toNat_ofNat]
      omega
    have hat : startFrame (folded base.toNat rs last more s) =
        atFrame base.toNat rs more false last.2.1 last.2.2 (s.sum8 + sumBytes rs) (s.xor8 ^^^ xorBytes rs) s := by
      simp [folded, atFrame, startFrame, setPhase, setMpc, hp, hm, hidx]
    exact ⟨k, _, _, _, _, _, hk, fun n => by rw [hrun, hzero, Nat.add_zero, hnext, hat]⟩

/-! ### The abort of a fold's frame -/

/-- The whole next state of a fold command one of whose frames aborts, but for the registers a fold works in
(R76, R89). -/
theorem perform_foldMicro_abort (base : Addr) (count : Nat) (hcount : count ≤ 11) (w : Word)
    (rs : List (Byte × Byte × Byte)) (got : List Byte) (rest : List Reply) (hlt : rs.length < count)
    (hg : got.length ≤ 2) (s : State) (hready : Ready s)
    (hr : s.replies = repliesToAll rs ++ (got.map .byte ++ .busError :: rest)) :
    ∃ hi lo sum8 xor8 fidx, perform (.command w) (foldMicro base count) s = { ended w .busError s with
      sel := false, replies := rest,
      trace := s.trace ++ foldOps s.cfg base.toNat rs ++
        abortOps s.cfg (readBytes s.cfg (BitVec.ofNat 7 (base.toNat + rs.length))) got,
      hb := hi, lb := lo, sum8 := sum8, xor8 := xor8, fidx := fidx } := by
  have hstart : (foldMicro base count).start (accept (.command w) s) = foldStart w s := if_pos (Nat.zero_lt_of_lt hlt)
  have hr' : (foldStart w s).replies = repliesToAll rs ++ (got.map .byte ++ .busError :: rest) := hr
  obtain ⟨k, sel, hi, lo, sum8, xor8, hk, hframes⟩ := drive_to_frame base count hcount rs _ (foldStart w s) rfl
    hready.2 rfl rfl rfl hlt hr'
  have hidx : (BitVec.ofNat 4 rs.length).toNat = rs.length := by rw [BitVec.toNat_ofNat]; omega
  obtain ⟨j, hj, habort⟩ := drive_abort (foldMicro base count)
    (readFrame s.cfg (BitVec.ofNat 7 (base.toNat + rs.length)))
    (atFrame base.toNat rs (got.map .byte ++ .busError :: rest) sel hi lo sum8 xor8 (foldStart w s))
    (fun t hc hi => by rw [send_foldMicro, hc, hi, atFrame, hidx]; rfl) rfl hready.2 rfl got rest rfl hg rfl
  refine ⟨(got[1]?).getD hi, lo, sum8, xor8, BitVec.ofNat 4 rs.length, ?_⟩
  rw [perform_decode hready hstart rfl, show 159 = 158 - k - j + 1 + j + k by omega, hframes, habort,
    drive_end _ _ _ .busError (by exact hready.2) rfl, if_neg nofun, afterAbort, abortTrace_eq, sentBytes_readFrame]
  conv_rhs => rw [← with_st_idle hready.1]
  rfl

/-- Settles O22: the loop of R85 up to the frame that fails, and R76's abort of it, with the numbers of the two
commands. -/
theorem failedExchangeKeepsTheChecksum : Obligations.FailedExchangeKeepsTheChecksum := by
  intro s i op base count rs got rest hready hi hlt hg hr
  rcases hi with ⟨rfl, rfl, rfl, rfl⟩ | ⟨rfl, rfl, rfl, rfl⟩
  · obtain ⟨_, _, _, _, _, hrun⟩ :=
      perform_foldMicro_abort cs1Base cs1Count (by decide) (word 0x08 0 0) rs got rest hlt hg s hready hr
    rw [exec_eq, show encode .cs1 = .command (word 0x08 0 0) by decide]
    exact ⟨_, congrArg _ hrun, rfl⟩
  · obtain ⟨_, _, _, _, _, hrun⟩ :=
      perform_foldMicro_abort cs2Base cs2Count (by decide) (word 0x09 0 0) rs got rest hlt hg s hready hr
    rw [exec_eq, show encode .cs2 = .command (word 0x09 0 0) by decide]
    exact ⟨_, congrArg _ hrun, rfl⟩

end Sys2Proof.Proofs

/-! PROOFS. The measurement converter (42_measurement.md): the exact pairs of R96 to R104 with their corner cases and
widths, and what MEAS.q and CONV.q leave (R108 to R138). -/

namespace Sys2Proof.Proofs

open Sys2Proof.Machine Sys2Proof.Safety Sys2Proof.Expect

/-! ### The rows of the tables -/

/-- The quantities in the order of their codes (R95). -/
def quantities : List Quantity := [.v, .i, .p, .q, .s, .f, .pf, .pa, .eaf, .ear, .eaa, .erf, .err, .era]

theorem measTable_eq_map : measTable = quantities.map fun k => (measInstr k, k, (measOp k).toNat) := rfl

theorem convTable_eq_map (r : Half) :
    convTable r = quantities.map fun k => (convInstr r k, k, (convOp k).toNat) := rfl

/-- A row found by its quantity holds that quantity's own entries. -/
theorem eq_of_mem_rows {f : Quantity → Instr} {g : Quantity → Nat} {i : Instr} {k : Quantity} {op : Nat}
    (h : (i, k, op) ∈ quantities.map fun k => (f k, k, g k)) : i = f k ∧ op = g k := by
  obtain ⟨_, -, hrow⟩ := List.mem_map.1 h
  cases hrow
  exact ⟨rfl, rfl⟩

theorem eq_of_mem_measTable {i : Instr} {k : Quantity} {op : Nat} (h : (i, k, op) ∈ measTable) :
    i = measInstr k ∧ op = (measOp k).toNat := eq_of_mem_rows (measTable_eq_map ▸ h)

theorem eq_of_mem_convTable {r : Half} {i : Instr} {k : Quantity} {op : Nat} (h : (i, k, op) ∈ convTable r) :
    i = convInstr r k ∧ op = (convOp k).toNat := eq_of_mem_rows (convTable_eq_map r ▸ h)

/-! The quantity code is the low four bits of both opcodes (R67, R95). -/

theorem quantityCode_eq_measOp (k : Quantity) : quantityCode k = BitVec.ofNat 4 (measOp k).toNat := by cases k <;> rfl

theorem quantityCode_eq_convOp (k : Quantity) : quantityCode k = BitVec.ofNat 4 (convOp k).toNat := by cases k <;> rfl

theorem encode_convInstr (r : Half) (k : Quantity) :
    encode (convInstr r k) = .command (word (convOp k).toNat 0 r.toNat) := by
  have hword : convRequest k r = .command (word (convOp k).toNat 0 r.toNat) :=
    congrArg Request.command (commandWord_eq_word (convOp k) 0 r)
  rw [← hword]
  cases k <;> rfl

theorem microOf_convInstr (r : Half) (k : Quantity) : microOf (convInstr r k) = convMicro k r := by cases k <;> rfl

/-! ### The conversions against the spec's formulas -/

/-- Signed magnitude (R11) as a sign and a remainder. -/
theorem sm16_eq_neg_one_pow (v : Half) : sm16 v = (-1) ^ (v.toNat / 32768) * (v.toNat % 32768 : Nat) := by
  have hlt := v.isLt
  have hsign : v.getLsbD 15 = decide (v.toNat / 32768 % 2 = 1) := by
    simp [BitVec.getLsbD, Nat.testBit_eq_decide_div_mod_eq]
  rw [sm16_eq, hsign]
  obtain hbit | hbit : v.toNat / 32768 = 0 ∨ v.toNat / 32768 = 1 := by omega
  · simp [hbit]
  · simp [hbit]

theorem pDivValue_eq (d : PDiv) : pDivValue d = if d = .thousand then 1000 else 1 := by cases d <;> rfl

/-- R96 to R104: the converter's pairs are the spec's formulas. -/
theorem convert_eq_pairOf (c : Config) (r : Half) (k : Quantity) : convert c r k = pairOf c r k := by
  have hsigned := sext16_eq_toInt r
  cases k with
  | p => exact Prod.ext hsigned (pDivValue_eq c.pDiv)
  | q | s | pa => exact Prod.ext hsigned rfl
  | pf => exact Prod.ext (sm16_eq_neg_one_pow r) rfl
  | v | i | f | eaf | ear | eaa | erf | err | era => rfl

/-- Settles O26: the spec's formulas, and R106's bounds, which lie below the powers of two of R26. -/
theorem conversionsFitTheWidths : Obligations.ConversionsFitTheWidths := by
  intro c r k
  obtain ⟨hnum, hpos, hden⟩ := convert_fits c r k
  exact ⟨convert_eq_pairOf c r k, hnum, by omega, hpos, hden, by omega⟩

/-! ### MEAS.q and CONV.q -/

/-- The last lines of MEAS(q) (R108), as one update of the state. -/
theorem writeConv_writeRData (k : Quantity) (p : Int × Nat) (v : Half) (s : State) :
    writeConv k p (writeRData v s) = { s with
      rdata := v, rdataValid := true, convM := p.1, convD := p.2, convQ := quantityCode k, convValid := true } := rfl

/-- Settles O23: the frame's bytes are the value, and the pair of the value is the spec's. -/
theorem measReadsAndConverts : Obligations.MeasReadsAndConverts := by
  intro s i k op r rest hready hrow hr
  obtain ⟨rfl, rfl⟩ := eq_of_mem_measTable hrow
  have hword : commandWord (measOp k) 0 0 = word (measOp k).toNat 0 0 := commandWord_eq_word (measOp k) 0 0
  rw [exec_measInstr_ok hready k r rest hr, convert_eq_pairOf, measAddr_eq, hword, writeConv_writeRData,
    quantityCode_eq_measOp]

/-- The steps of CONV.q: decode, the conversion, the end (R36, R123). -/
theorem perform_convMicro {s : State} (hready : Ready s) (q : Request) (k : Quantity) (r : Half) :
    perform q (convMicro k r) s = endCommand .ok (setPhase (.finish .ok)
      (writeConv k (convert (accept q s).cfg r k) (setPhase .compute (accept q s)))) := by
  have hreset : (accept q s).resetIn = none := (accept_resetIn q s).trans hready.2
  have hbusy : (accept q s).st = .busy := accept_st q s
  have hconvert : busyStep (convMicro k r) (setPhase .compute (accept q s)) = some (setPhase (.finish .ok)
      (writeConv k (convert (accept q s).cfg r k) (setPhase .compute (accept q s)))) := rfl
  rw [perform_decode hready (u := setPhase .compute (accept q s)) rfl hbusy,
    drive_go _ 158 _ _ (by exact hreset) hconvert (by exact hbusy), drive_end _ 157 _ .ok (by exact hreset) rfl]
  rfl

/-- A CONV.q of a ready block: the command ended OK, and the converted pair (R123). -/
theorem exec_convInstr {s : State} (hready : Ready s) (r : Half) (k : Quantity) : exec (convInstr r k) s =
    .next (writeConv k (convert s.cfg r k) (ended (word (convOp k).toNat 0 r.toNat) .ok s)) := by
  rw [exec_eq, encode_convInstr, microOf_convInstr, perform_convMicro hready]
  conv_rhs => rw [← with_st_idle hready.1]
  rfl

/-- Settles O24: the conversion of the operand is the spec's, and a word that decodes is its instruction's encoding. -/
theorem convConvertsTheOperand : Obligations.ConvConvertsTheOperand := by
  refine ⟨fun s i k op r hready hrow => ?exec, fun w i k op r hrow hdecode => ?word⟩
  case exec =>
    obtain ⟨rfl, rfl⟩ := eq_of_mem_convTable hrow
    rw [exec_convInstr hready, convert_eq_pairOf, ← quantityCode_eq_convOp]
    rfl
  case word =>
    obtain ⟨rfl, rfl⟩ := eq_of_mem_convTable hrow
    have hencode := encode_of_decodeCommand hdecode
    rw [encode_convInstr] at hencode
    exact (Request.command.inj hencode).symm

/-- Settles O25: the bytes received join to the operand, and both commands convert it by the one function. -/
theorem measAgreesWithConv : Obligations.MeasAgreesWithConv := by
  intro s t i j k m n r r0 rest hs ht hcfg hmeas hconv hr
  obtain ⟨rfl, -⟩ := eq_of_mem_measTable hmeas
  obtain ⟨rfl, -⟩ := eq_of_mem_convTable hconv
  have hjoin : hiByte r ++ loByte r = r := joinBytes_hi_lo r
  have hrun := exec_measInstr_ok hs k (r0, hiByte r, loByte r) rest (by rw [hr, hiByte_eq, loByte_eq]; rfl)
  simp only [hjoin, hcfg] at hrun
  exact ⟨_, _, hrun, exec_convInstr ht r k, rfl, rfl, rfl, rfl, rfl⟩

/-! ### The corner cases of each conversion -/

/-- Settles O27: a product with a factor 0 or 1, and the divisor's range from R8. -/
theorem voltageConversion : Obligations.VoltageConversion := by
  refine ⟨fun _ _ => rfl, fun c => ?zero, fun c r hnum => ?noGain, fun c hnum hden => ?unitGain, fun c => ?range⟩
  case zero => exact Int.zero_mul (zext c.vgainNum)
  case noGain =>
    change zext r * zext c.vgainNum = 0
    rw [hnum]
    exact Int.mul_zero (zext r)
  case unitGain =>
    change (zext 0xFFFF * zext c.vgainNum, 100 * c.vgainDen) = (65535, 100)
    rw [hnum, hden]
    rfl
  case range =>
    have hlt := c.vgainDenLess1.isLt
    rw [Config.vgainDen]
    omega

/-- Settles O28: two's complement of the corner values (R11), over either value of P_DIV. -/
theorem activePowerConversion : Obligations.ActivePowerConversion := by
  intro c
  have hdiv : pDivValue c.pDiv = 1 ∨ pDivValue c.pDiv = 1000 := by
    cases c.pDiv with
    | one => exact .inl rfl
    | thousand => exact .inr rfl
  exact ⟨fun _ => rfl, hdiv, rfl, rfl, rfl, rfl⟩

/-- Settles O29: signed magnitude by its formula, and of the corner values. -/
theorem powerFactorConversion : Obligations.PowerFactorConversion :=
  fun _ => ⟨fun r => Prod.ext (sm16_eq r) rfl, rfl, rfl, rfl, rfl, rfl⟩

/-- Settles O30: the raw value as it is, over the divisor of its quantity. -/
theorem unsignedConversions : Obligations.UnsignedConversions := by
  refine fun c => ⟨fun _ => ⟨rfl, rfl, rfl, rfl, rfl, rfl, rfl, rfl⟩, rfl, rfl, rfl, rfl, rfl, ?active, ?reactive⟩
  case active =>
    have hpair : ∀ k ∈ [Quantity.eaf, .ear, .eaa], ∀ r, convert c r k = pairEA r := by simp [convert]
    exact fun k hk => ⟨hpair k hk _, hpair k hk _⟩
  case reactive =>
    have hpair : ∀ k ∈ [Quantity.erf, .err, .era], ∀ r, convert c r k = pairER r := by simp [convert]
    exact fun k hk => ⟨hpair k hk _, hpair k hk _⟩

/-- Settles O31: Q, S and PA share two's complement over 1. -/
theorem signedConversions : Obligations.SignedConversions := by
  intro c
  have hpair : ∀ r, ∀ k ∈ [Quantity.q, .s, .pa], convert c r k = (sext16 r, 1) := by
    simp [convert, pairQS, pairPA]
  have hpower : ∀ k ∈ [Quantity.q, .s], k ∈ [Quantity.q, .s, .pa] := by decide
  exact ⟨hpair, fun k hk => ⟨hpair _ k (hpower k hk), hpair _ k (hpower k hk), hpair _ k (hpower k hk)⟩, rfl, rfl⟩

end Sys2Proof.Proofs

/-! PROOFS. Errors and ends (60_exceptions.md): a command that is refused at decode (R141, R142) or aborted in its frame
(R140) leaves its status and no result, every step comes to an end or waits on the bus (R150), and two instances
(R155). -/

namespace Sys2Proof.Proofs

open Sys2Proof.Machine Sys2Proof.Safety Sys2Proof.Expect

/-! ### The status codes -/

/-- Settles O33: each code has the number R139 gives it, and the host reads that number beside DONE. -/
theorem statusCodeNumbers : Obligations.StatusCodeNumbers := ⟨rfl, rfl, rfl, rfl, fun _ => rfl⟩

/-! ### A command refused at decode -/

/-- A command whose decode step raises an error ends there: the error is its status, and no frame was sent (R145). -/
theorem perform_refused {m : Micro} {s : State} {w : Word} {c : Code} (hready : Ready s) (hc : c ≠ .ok)
    (hraise : m.start (accept (.command w) s) = raise c (accept (.command w) s)) :
    perform (.command w) m s = ended w c s := by
  rw [perform_raised hready hc hraise]
  conv_rhs => rw [← with_st_idle hready.1]
  rfl

/-- A step of a block whose delays meet R77 and whose current request does not decode raises IllegalCommand (R142). -/
theorem step_eq_performIllegal {s : State} {r : Request} {e : Illegal} (htiming : s.cfg.timingOk = true)
    (hreq : currentRequest s = some r) (hdecode : decode r = .error e) : step s = .next (performIllegal r s) := by
  simp only [step, htiming, if_true, hreq, hdecode]

/-- Settles O10: an illegal word does not decode, and the parts run for it refuse it at decode. -/
theorem illegalWordEndsTheCommand : Obligations.IllegalWordEndsTheCommand := by
  refine ⟨fun s w rest htiming hready hport hillegal => ?_, rfl⟩
  obtain ⟨e, hdecode⟩ := (wordRejectedExactlyWhenIllegal w).2 hillegal
  rw [step_eq_performIllegal htiming (currentRequest_presented hready.1 hport) hdecode, performIllegal,
    perform_refused hready (c := .illegalCommand) nofun rfl]

/-- Settles O15: R141's ranges are the addresses the check of READ or WRITE refuses. -/
theorem disallowedAddressIsInvalidAddress : Obligations.DisallowedAddressIsInvalidAddress := by
  refine ⟨fun s a v hready haddr => ?write, fun s a hready haddr => ?read, rfl⟩
  case write =>
    have hrefused : writable a = false := (writable_eq_false_iff a).2 haddr
    rw [exec_eq, encode_write, microOf,
      perform_refused hready (c := .invalidAddress) nofun (if_neg (by simp [hrefused]))]
  case read =>
    have hrefused : readable a = false := (readable_eq_false_iff a).2 (haddr.imp_right And.left)
    rw [exec_eq, encode_read, microOf,
      perform_refused hready (c := .invalidAddress) nofun (if_neg (by simp [hrefused]))]

/-! ### A command aborted in its frame -/

theorem send_measMicro {k : Quantity} {s t : State} (h : t.cfg = s.cfg) :
    (measMicro k).send t = some (readFrame s.cfg (measAddr s.cfg.measMap k)) := by rw [← h]; rfl

/-- A MEAS.q whose frame has an exchange that fails ends in BusError, before its conversion (R76, R140). -/
theorem exec_measInstr_abort {s : State} (hready : Ready s) (k : Quantity) {got : List Byte} {rest : List Reply}
    (hg : got.length ≤ 2) (hr : s.replies = got.map .byte ++ .busError :: rest) : exec (measInstr k) s =
      .next (aborted (readBytes s.cfg (measAddr s.cfg.measMap k)) got rest
        (ended (commandWord (measOp k) 0 0) .busError s)) := by
  rw [exec_eq, encode_measInstr, microOf_measInstr, measRequest,
    perform_frame_abort hready rfl (fun t => send_measMicro) got rest hg hr, endCommand_afterAbort hready.1,
    sentBytes_readFrame]

/-- Settles O18: the three kinds of one-frame command, each by its own abort. -/
theorem failedExchangeAbortsTheCommand : Obligations.FailedExchangeAbortsTheCommand := by
  intro s i b w got rest hready hframe hword hg hr
  obtain ⟨a, rfl, ha, rfl⟩ | ⟨a, v, rfl, ha, rfl⟩ | ⟨k, rfl, rfl⟩ := oneFrame_cases hframe
  · obtain rfl := Request.command.inj ((encode_read a).symm.trans hword)
    exact exec_read_abort hready ha hg hr
  · obtain rfl := Request.command.inj ((encode_write a v).symm.trans hword)
    exact exec_write_abort v hready ha hg hr
  · obtain rfl := Request.command.inj ((encode_measInstr k).symm.trans hword)
    exact exec_measInstr_abort hready k hg hr

/-! ### Every step ends or waits on the bus -/

/-- A frame waits in its exchanges only, the steps 2, 4 and 6 of R75. -/
theorem mpc_of_frameStep_eq_none {f : Frame} {p : Phase} {s : State} (h : frameStep f p s = none) :
    s.mpc = 2 ∨ s.mpc = 4 ∨ s.mpc = 6 := by
  unfold frameStep at h
  split at h
  case h_3 hm => exact .inl hm
  case h_5 hm => exact .inr (.inl hm)
  case h_7 hm => exact .inr (.inr hm)
  all_goals cases h

/-- A busy block in a phase of its request's own stops only within a frame (R37). -/
theorem frame_of_busyStep_eq_none {o : Option Instr} {s : State} (h : PhaseFits o s)
    (hs : busyStep (partsOf o) s = none) :
    s.phase = .frame ∧ ∃ f, frameStep f (partsOf o).afterFrame s = none := by
  obtain ⟨hframe, hcompute⟩ := h
  cases hp : s.phase with
  | frame =>
    obtain ⟨i, rfl, hi⟩ : ∃ i, o = some i ∧ mayFrame s.fidx i = true := by
      simpa [Option.any_eq_true] using hframe hp
    obtain ⟨f, hf⟩ := (runsDown_microOf i).send s hi
    exact ⟨rfl, f, (busyStep_frame _ f s hp hf).symm.trans hs⟩
  | compute =>
    obtain ⟨i, rfl, hi⟩ : ∃ i, o = some i ∧ mayCompute s.fidx i = true := by
      simpa [Option.any_eq_true] using hcompute hp
    obtain ⟨t, ht, -⟩ := (runsDown_microOf i).compute s hi
    simp [busyStep, hp, partsOf, ht] at hs
  | decode => simp [busyStep, hp] at hs
  | abort => simp [busyStep, hp] at hs
  | finish c => simp [busyStep, hp] at hs

/-- A busy block that stops waits on BusTransport for an answer that has not come (R37). -/
theorem waitsOnBus_of_busyStep_eq_none {o : Option Instr} {s : State} (hbusy : s.st = .busy) (h : PhaseFits o s)
    (hs : busyStep (partsOf o) s = none) : waitsOnBus s = true := by
  obtain ⟨hp, f, hf⟩ := frame_of_busyStep_eq_none h hs
  simpa [waitsOnBus, hbusy, hp, replies_of_frameStep_eq_none hf, or_assoc] using mpc_of_frameStep_eq_none hf

/-- A bound on the steps to the end of what a request decodes to; an illegal word has its decode step and its end step
(R142). -/
def stepsToEnd : Option Instr → State → Nat
  | some i, s => stepsLeft i s
  | none, s => match s.phase with
    | .decode => 3
    | .abort => 2
    | .frame | .compute | .finish _ => 1

/-- No command has more frames than CS1 has registers (R91). -/
theorem framesLeft_le (fidx : BitVec 4) (i : Instr) : framesLeft fidx i ≤ 11 := by
  unfold framesLeft
  split
  · exact Nat.sub_le cs1Count _
  · exact (Nat.sub_le cs2Count _).trans (by decide)
  · decide

/-- R150: the longest command, CS1, has far less than `maxSteps` before it. -/
theorem stepsToEnd_lt_maxSteps (s : State) (o : Option Instr) : stepsToEnd o s < maxSteps := by
  have hmax : maxSteps = 160 := rfl
  cases o with
  | none => cases hp : s.phase <;> simp [stepsToEnd, hp, hmax]
  | some i =>
    have hframes := framesLeft_le s.fidx i
    rw [stepsToEnd, hmax]
    cases hp : s.phase with
    | frame => rw [stepsLeft_frame hp]; omega
    | compute => rw [stepsLeft_compute hp]; omega
    | decode => rw [stepsLeft_decode hp]; decide
    | abort => rw [stepsLeft_abort hp]; decide
    | finish c => rw [stepsLeft_finish hp]; decide

/-- A step that does not end what the block works on takes it nearer to its end. -/
theorem busyStep_nearer {o : Option Instr} {s t : State} (h : PhaseFits o s) (hs : busyStep (partsOf o) s = some t)
    (ht : t.st = .busy) : stepsToEnd o t < stepsToEnd o s := by
  cases o with
  | some i => exact (busyStep_progress ((phaseFits_some_iff i s).1 h) hs ht).2
  | none =>
    rcases busyStep_cases hs with ⟨hp, rfl⟩ | ⟨-, f, hf, -⟩ | ⟨hp, rfl⟩ | ⟨-, hc⟩ | ⟨-, rfl⟩ | ⟨c, -, -, rfl⟩
    · simp [stepsToEnd, hp, partsOf, illegalMicro]
    · cases hf
    · simp [stepsToEnd, hp]
    · cases hc
    · exact absurd ((endCommand_rests _ _).1.symm.trans ht) (by decide)
    · exact absurd ((endCommand_rests _ _).1.symm.trans ht) (by decide)

/-- The block is IDLE or waits on BusTransport. -/
def EndsOrWaits (s : State) : Prop := s.st = .idle ∨ waitsOnBus s = true

/-- A run with steps enough comes to the end of its command, or to a wait, or to the reset (R37, R159). -/
theorem drive_endsOrWaits {o : Option Instr} (n : Nat) (s : State) (hbusy : s.st = .busy) (h : PhaseFits o s)
    (hn : stepsToEnd o s < n) : EndsOrWaits (drive (partsOf o) n s) := by
  induction n generalizing s with
  | zero => exact absurd hn (Nat.not_lt_zero _)
  | succ n ih =>
    have hleft : stepsToEnd o (countDown s) = stepsToEnd o s := by cases o <;> rfl
    unfold drive
    split
    · exact .inl rfl
    · split
      · rename_i hwait
        exact .inr (waitsOnBus_of_busyStep_eq_none (s := countDown s) hbusy h hwait)
      · rename_i t hstep
        split
        · exact .inl ‹_›
        · rename_i hgoes
          have ht : t.st = .busy := by
            cases hst : t.st with
            | busy => rfl
            | idle => exact absurd hst hgoes
          have hnear := busyStep_nearer (s := countDown s) h hstep ht
          exact ih t ht (busyStep_phaseFits (s := countDown s) h hstep ht) (by omega)

/-- Running the parts of the request in progress, or of the one accepted, comes to an end or waits. -/
theorem perform_endsOrWaits {o : Option Instr} {s : State} (r : Request) (h : s.st = .busy → PhaseFits o s) :
    EndsOrWaits (perform r (partsOf o) s) := by
  unfold perform
  split
  · exact drive_endsOrWaits maxSteps s ‹_› (h ‹_›) (stepsToEnd_lt_maxSteps s o)
  · split
    · exact .inl rfl
    · refine drive_endsOrWaits maxSteps _ (accept_st r _) ⟨fun hp => ?_, fun hp => ?_⟩ (stepsToEnd_lt_maxSteps _ o)
      · cases (accept_phase r _).symm.trans hp
      · cases (accept_phase r _).symm.trans hp

theorem waitIdle_endsOrWaits {s : State} (h : currentRequest s = none) : EndsOrWaits (waitIdle s) := by
  have hidle : s.st = .idle := by
    cases hst : s.st with
    | idle => rfl
    | busy => simp [currentRequest, hst] at h
  unfold waitIdle
  split
  · exact .inl rfl
  · exact .inl hidle

/-- Settles O47: with the delays of R77 met a step answers a next state, and each of its three kinds ends or waits. -/
theorem stepEndsOrWaitsOnTheBus : Obligations.StepEndsOrWaitsOnTheBus := by
  intro s h
  obtain ⟨htiming, -, hphase, -⟩ := h
  rw [phaseFits_iff] at hphase
  obtain ⟨t, hstep⟩ : ∃ t, step s = .next t := ⟨_, step_eq s htiming⟩
  refine ⟨t, hstep, ?_⟩
  obtain ⟨-, ⟨hnone, rfl⟩ | ⟨r, hr, ⟨i, hi, rfl⟩ | ⟨e, he, rfl⟩⟩⟩ := step_cases hstep
  · exact waitIdle_endsOrWaits hnone
  · exact perform_endsOrWaits (o := some i) _ fun _ => by simpa [currentInstr, hr, hi, Except.toOption] using hphase
  · exact perform_endsOrWaits (o := none) _ fun _ => by simpa [currentInstr, hr, he, Except.toOption] using hphase

/-! ### Two instances -/

/-- A step of either block on a bus of its own is its own step. -/
theorem stepApart_of_step {s t : State} (h : step s = .next t) (o : State) :
    stepApart true (s, o) = .next (t, o) ∧ stepApart false (o, s) = .next (o, t) := by
  simp [stepApart, h]

/-- Settles O52: only the other's select decides whether frames may overlap, and a step that is not refused is the step
on buses of their own. -/
theorem instancesAreIndependent : Obligations.InstancesAreIndependent := by
  refine ⟨fun s o t h => stepApart_of_step h o, fun s o hsel hbus => ?shared, fun s o t hsel h => ?free⟩
  case shared =>
    have hoverlap : framesOverlap s o = true := by simp [framesOverlap, hsel, hbus]
    exact ⟨if_pos hoverlap, if_pos hoverlap⟩
  case free =>
    have hapart : framesOverlap s o = false := by simp [framesOverlap, hsel]
    exact (if_neg (by simp [hapart])).trans (stepApart_of_step h o).1

end Sys2Proof.Proofs

/-! PROOFS. Reset and hazards (70_reset_and_hazards.md): the block reset (R158, R159), waiting (R37, U6), the boot
sequence and its checksums as the host's duties (R162, R163, R165, R166). -/

namespace Sys2Proof.Proofs

open Sys2Proof.Machine Sys2Proof.Safety Sys2Proof.Expect

/-! ### A reset that arrives -/

/-- A reset that has arrived is the only thing a wait does (R158). -/
theorem waitIdle_of_reset {s : State} (h : s.resetIn = some 0) : waitIdle s = blockReset s := if_pos h

/-- A reset that has arrived comes before any step of a run (R159). -/
theorem perform_of_reset {s : State} (h : s.resetIn = some 0) (r : Request) (m : Micro) :
    perform r m s = blockReset s := by
  by_cases hbusy : s.st = .busy
  · exact (if_pos hbusy).trans (if_pos h)
  · exact (if_neg hbusy).trans (if_pos h)

/-- Settles O42: each of the three kinds of step meets the reset first. -/
theorem resetAbandonsTheCommand : Obligations.ResetAbandonsTheCommand := by
  intro s htiming hreset
  obtain ⟨t, ht⟩ : ∃ t, step s = .next t := ⟨_, step_eq s htiming⟩
  obtain rfl : t = blockReset s := by
    obtain ⟨-, ⟨-, rfl⟩ | ⟨r, -, ⟨i, -, rfl⟩ | ⟨e, -, rfl⟩⟩⟩ := step_cases ht
    · exact waitIdle_of_reset hreset
    · exact perform_of_reset hreset _ _
    · exact perform_of_reset hreset _ _
  exact ht

/-- The reset is still to come, or the block has just been reset. -/
def ComingOrReset (s : State) : Prop := s.resetIn ≠ none ∨ ∃ u, s = blockReset u

/-- A reset that is coming stays so until it arrives: no instruction ends it (R159). -/
theorem drive_comingOrReset (i : Instr) (n : Nat) {s : State} (h : s.resetIn ≠ none) :
    ComingOrReset (drive (microOf i) n s) := by
  refine (drive_to_or_reset (microOf i) (fun u => u.resetIn ≠ none) ComingOrReset (fun u _ => .inr ⟨u, rfl⟩)
    (fun u hu => by simpa using hu) (fun u t hu ht => ?_) n s h).elim .inl id
  have hcoming : t.resetIn ≠ none := by rwa [busyStep_microOf_resetIn ht]
  cases hst : t.st with
  | busy => exact .inl ⟨rfl, hcoming⟩
  | idle => exact .inr ⟨rfl, .inl hcoming⟩

theorem perform_comingOrReset (i : Instr) {s : State} (h : s.resetIn ≠ none) :
    ComingOrReset (perform (encode i) (microOf i) s) := by
  unfold perform
  split
  · exact drive_comingOrReset i _ h
  · split
    · exact .inr ⟨s, rfl⟩
    · refine drive_comingOrReset i _ ?_
      rw [accept_resetIn]
      simpa using h

/-- Settles O43: an instruction after which no reset is coming any more was abandoned by it. -/
theorem resetMayArriveAtAnyStep : Obligations.ResetMayArriveAtAnyStep := by
  intro i s t n hreset hexec hgone
  obtain rfl : perform (encode i) (microOf i) s = t := by simpa [exec_eq] using hexec
  have hcfg := perform_cfg (keepsConfig_microOf i) (encode i) s
  obtain hcoming | ⟨u, hu⟩ := perform_comingOrReset i (s := s) (by simp [hreset])
  · exact absurd hgone hcoming
  · rw [hu] at hcfg ⊢
    exact ⟨rfl, rfl, rfl, rfl, rfl, rfl, rfl, rfl, rfl, rfl, rfl, hcfg⟩

/-! ### Waiting -/

/-- A frame in one of its exchanges waits while there is no answer (R37). -/
theorem frameStep_eq_none (f : Frame) (p : Phase) {s : State} (hm : s.mpc = 2 ∨ s.mpc = 4 ∨ s.mpc = 6)
    (hr : s.replies = []) : frameStep f p s = none := by
  rcases hm with hm | hm | hm
  · rw [frameStep_2 f p s hm, frameXchg_eq_none, hr]
  · rw [frameStep_4 f p s hm, frameXchg_eq_none, hr]
  · rw [frameStep_6 f p s hm, frameXchg_eq_none, hr]

theorem waitsOnBus_iff (s : State) : waitsOnBus s = true ↔
    s.st = .busy ∧ s.phase = .frame ∧ (s.mpc = 2 ∨ s.mpc = 4 ∨ s.mpc = 6) ∧ s.replies = [] := by
  simp [waitsOnBus, and_assoc, or_assoc]

/-- A block that waits on BusTransport does so whichever request of its own the frame belongs to (U6). -/
theorem perform_of_waitsOnBus {s : State} {i : Instr} (h : PhaseFits (some i) s) (hn : s.resetIn = none)
    (hwait : waitsOnBus s = true) (r : Request) : perform r (microOf i) s = s := by
  obtain ⟨hbusy, hframe, hmpc, hreplies⟩ := (waitsOnBus_iff s).1 hwait
  obtain ⟨f, hf⟩ := (runsDown_microOf i).send s (by simpa using h.1 hframe)
  rw [perform_busy r _ s hbusy, drive_wait]
  · exact hn
  · rw [busyStep_frame _ f s hframe hf, frameStep_eq_none f _ hmpc hreplies]

/-- Settles O12: an IDLE block only counts down to a reset, and a busy one stops before the exchange that has no
answer; in a frame the invariant leaves no illegal word. -/
theorem waitingChangesNothing : Obligations.WaitingChangesNothing := by
  refine ⟨fun s htiming hready hport => ?idle, fun s hinv hreset hwait => ?busy⟩
  case idle =>
    obtain ⟨hidle, hreset⟩ := hready
    have hnone : currentRequest s = none := by simp [currentRequest, hidle, hport]
    have hstays : waitIdle s = s := by simp [waitIdle, hreset, countDown_of_none]
    rw [step_eq s htiming, hnone]
    exact congrArg _ hstays
  case busy =>
    obtain ⟨htiming, -, hphase, -⟩ := (blockInv_iff s).1 hinv
    obtain ⟨t, ht⟩ : ∃ t, step s = .next t := ⟨_, step_eq s htiming⟩
    obtain ⟨hbusy, hframe, -⟩ := (waitsOnBus_iff s).1 hwait
    obtain rfl : t = s := by
      obtain ⟨-, ⟨hnone, -⟩ | ⟨r, hr, ⟨i, hi, rfl⟩ | ⟨e, he, -⟩⟩⟩ := step_cases ht
      · simp [currentRequest, hbusy] at hnone
      · have hcur : currentInstr s = some i := by simp [currentInstr, hr, hi, Except.toOption]
        exact perform_of_waitsOnBus (hcur ▸ hphase) hreset hwait _
      · simpa [currentInstr, hr, he, Except.toOption] using hphase.1 hframe
    exact ht

/-! ### The instruction of an event -/

section
variable (op : BitVec 8) (a : Addr) (v : Half)

theorem cmdOp_commandWord : cmdOp (commandWord op a v) = op := by
  apply BitVec.eq_of_toNat_eq
  simp only [toNat_cmdOp, commandWord, toNat_append_eq]
  have := a.isLt; have := v.isLt
  omega

theorem cmdRsv_commandWord : cmdRsv (commandWord op a v) = false := by
  rw [cmdRsv_eq_false_iff]
  simp only [commandWord, toNat_append_eq, BitVec.toNat_ofNat]
  have := a.isLt; have := v.isLt
  omega

theorem cmdAddr_commandWord : cmdAddr (commandWord op a v) = a := by
  apply BitVec.eq_of_toNat_eq
  simp only [cmdAddr, commandWord, toNat_append_eq, BitVec.extractLsb'_toNat, Nat.shiftRight_eq_div_pow,
    BitVec.toNat_ofNat]
  have := a.isLt; have := v.isLt
  omega

theorem cmdData_commandWord : cmdData (commandWord op a v) = v := by
  apply BitVec.eq_of_toNat_eq
  simp only [cmdData, commandWord, toNat_append_eq, BitVec.extractLsb'_toNat, Nat.shiftRight_eq_div_pow,
    BitVec.toNat_ofNat]
  have := v.isLt
  omega

end

theorem decode_encode_write (a : Addr) (v : Half) : decode (encode (.write a v)) = .ok (.write a v) := by
  have hop : opClass (cmdOp (commandWord 0x02 a v)) = some .write := by rw [cmdOp_commandWord]; rfl
  change decodeCommand (commandWord 0x02 a v) = _
  simp only [decodeCommand, hop]
  simp [cmdRsv_commandWord, cmdAddr_commandWord, cmdData_commandWord, usesAddr, usesData, classInstr]

/-- The event of a WRITE, by its address and value instead of their numbers. -/
def wrote (a : Addr) (v : Half) (c : Code) (x : Option Half) : Event := writeEvent a.toNat v.toNat c x

@[simp] theorem wrote_csum (a : Addr) (v : Half) (c : Code) (x : Option Half) : (wrote a v c x).csum = x := rfl

@[simp] theorem csEvent_csum (op : Nat) (y : Half) : (csEvent op y).csum = some y := rfl

theorem wrote_ofNat {n : Nat} (hn : n < 128) (v : Half) (c : Code) (x : Option Half) :
    wrote (BitVec.ofNat 7 n) v c x = writeEvent n v.toNat c x := by
  rw [wrote, BitVec.toNat_ofNat, Nat.mod_eq_of_lt hn]

theorem eventInstr_wrote (a : Addr) (v : Half) (c : Code) (x : Option Half) :
    eventInstr (wrote a v c x) = some (.write a v) := by
  have hdecode := decode_encode_write a v
  rw [encode_write] at hdecode
  simp [eventInstr, wrote, writeEvent, hdecode, Except.toOption]

theorem decode_word_cs :
    decode (.command (word 0x08 0 0)) = .ok .cs1 ∧ decode (.command (word 0x09 0 0)) = .ok .cs2 := by decide

theorem eventInstr_cs1 (y : Half) : eventInstr (csEvent 0x08 y) = some .cs1 := by
  simp [eventInstr, csEvent, decode_word_cs, Except.toOption]

theorem eventInstr_cs2 (y : Half) : eventInstr (csEvent 0x09 y) = some .cs2 := by
  simp [eventInstr, csEvent, decode_word_cs, Except.toOption]

/-! ### A block of WRITEs -/

theorem zipIdx_map_cons {α β : Type} (f : α × Nat → β) (v : α) (vs : List α) :
    (v :: vs).zipIdx.map f = f (v, 0) :: vs.zipIdx.map fun q => f (q.1, q.2 + 1) := by
  rw [List.zipIdx_cons', List.map_cons, List.map_map]
  rfl

/-- A block's events, one register after the other. -/
theorem blockEvents_cons {n : Nat} (hn : n < 128) (v : Half) (vs : List Half) (x : Option Half) :
    blockEvents n (v :: vs) x = wrote (BitVec.ofNat 7 n) v .ok x :: blockEvents (n + 1) vs x := by
  rw [blockEvents, zipIdx_map_cons, wrote_ofNat hn]
  simp [blockEvents, Nat.add_assoc, Nat.add_comm 1]

/-- A block's commands, one register after the other. -/
theorem writeBlock_cons (n : Nat) (v : Half) (vs : List Half) : writeBlock (BitVec.ofNat 7 n) (v :: vs) =
    .write (BitVec.ofNat 7 n) v :: writeBlock (BitVec.ofNat 7 (n + 1)) vs := by
  rw [writeBlock, zipIdx_map_cons]
  simp [writeBlock, BitVec.ofNat_add, BitVec.add_assoc, BitVec.add_comm 1#7]

theorem length_blockEvents (n : Nat) (vs : List Half) (x : Option Half) : (blockEvents n vs x).length = vs.length := by
  simp [blockEvents]

theorem length_writeBlock (a : Addr) (vs : List Half) : (writeBlock a vs).length = vs.length := by simp [writeBlock]

/-- Each event of a block is a WRITE to a register of its range. -/
theorem mem_blockEvents {n : Nat} {vs : List Half} {x : Option Half} {e : Event} (h : e ∈ blockEvents n vs x)
    (hn : n + vs.length ≤ 128) :
    ∃ (a : Addr) (v : Half), n ≤ a.toNat ∧ a.toNat < n + vs.length ∧ e = wrote a v .ok x := by
  obtain ⟨⟨v, j⟩, hmem, rfl⟩ := List.mem_map.1 h
  have hj : j < vs.length := by simpa using List.snd_lt_of_mem_zipIdx hmem
  have ha : (BitVec.ofNat 7 (n + j)).toNat = n + j := by
    rw [BitVec.toNat_ofNat, Nat.mod_eq_of_lt (by omega)]
  exact ⟨BitVec.ofNat 7 (n + j), v, by omega, by omega, (wrote_ofNat (by omega) v .ok x).symm⟩

/-- Each command of a block is a WRITE, not below the block's first register. -/
theorem mem_writeBlock {n : Nat} {vs : List Half} {i : Instr} (h : i ∈ writeBlock (BitVec.ofNat 7 n) vs)
    (hn : n + vs.length ≤ 128) : ∃ (a : Addr) (v : Half), n ≤ a.toNat ∧ i = .write a v := by
  obtain ⟨⟨v, j⟩, hmem, rfl⟩ := List.mem_map.1 h
  have hj : j < vs.length := by simpa using List.snd_lt_of_mem_zipIdx hmem
  exact ⟨_, v, by simp; omega, rfl⟩

/-! ### How far a history has come in a sequence -/

theorem endedOk_of_error {e : Event} (h : e.code ≠ .ok) : endedOk e = none := if_neg h

theorem endedOk_wrote (a : Addr) (v : Half) (x : Option Half) : endedOk (wrote a v .ok x) = some (.write a v) :=
  (if_pos rfl).trans (eventInstr_wrote a v .ok x)

theorem endedOk_cs1 (y : Half) : endedOk (csEvent 0x08 y) = some .cs1 := (if_pos rfl).trans (eventInstr_cs1 y)

theorem endedOk_cs2 (y : Half) : endedOk (csEvent 0x09 y) = some .cs2 := (if_pos rfl).trans (eventInstr_cs2 y)

/-- What the sequence asks for at its place `k`, when the host reads `c` in CSUM. -/
def asks (seq : List BootStep) (k : Nat) (c : Option Half) : Option Instr := (seq[k]?).bind (BootStep.command c)

section
variable {seq : List BootStep} {b : BootProgress} {e : Event} {i : Instr}

/-- A command that ended in an error undoes it all (R163). -/
theorem bootDone_of_none (he : endedOk e = none) : bootDone seq b e = 0 := by simp only [bootDone, he]

/-- The next command of the sequence goes on. -/
theorem bootDone_of_asked (he : endedOk e = some i) (h : asks seq b.done b.csum = some i) :
    bootDone seq b e = b.done + 1 := by
  simp only [bootDone, he]
  exact if_pos h

/-- The first command of the sequence starts it, wherever the history stands, if the sequence asks for it once. -/
theorem bootDone_of_first (he : endedOk e = some i) (hfirst : ∀ k c, asks seq k c = some i ↔ k = 0) :
    bootDone seq b e = 1 := by
  by_cases h0 : b.done = 0
  · rw [bootDone_of_asked he ((hfirst _ _).2 h0), h0]
  · simp only [bootDone, he]
    exact (if_neg fun h => h0 ((hfirst _ _).1 h)).trans (if_pos ((hfirst 0 _).2 rfl))

/-- Any other command before the end starts over. -/
theorem bootDone_of_other (hlt : b.done < seq.length)
    (hnext : ∀ i, endedOk e = some i → asks seq b.done b.csum ≠ some i)
    (hfirst : ∀ i, endedOk e = some i → asks seq 0 b.csum ≠ some i) : bootDone seq b e = 0 := by
  obtain hzero | ⟨i, hi, ⟨-, hask⟩ | ⟨-, hask⟩ | ⟨-, hend, -⟩⟩ := bootDone_cases seq b e
  · exact hzero
  · exact absurd hask (hnext i hi)
  · exact absurd hask (hfirst i hi)
  · exact absurd hend hlt.ne

end

/-- The events are the commands of these steps, each ended OK, the host reading `c` in CSUM before them. -/
def Follows : List BootStep → Option Half → List Event → Prop
  | [], _, [] => True
  | st :: sts, c, e :: es => (∃ i, endedOk e = some i ∧ st.command c = some i) ∧ Follows sts e.csum es
  | [], _, _ :: _ => False
  | _ :: _, _, [] => False

section
variable {seq : List BootStep} (hne : 0 < seq.length)
include hne

/-- Without its first command the sequence does not begin. -/
theorem done_eq_zero_of_no_first (es : List Event)
    (hfirst : ∀ e ∈ es, ∀ c i, endedOk e = some i → asks seq 0 c ≠ some i) (b : BootProgress) (hb : b.done = 0) :
    (es.foldl (bootNext seq) b).done = 0 := by
  induction es generalizing b with
  | nil => exact hb
  | cons e es ih =>
    obtain ⟨he, hes⟩ := List.forall_mem_cons.1 hfirst
    exact ih hes _ (bootDone_of_other (hb ▸ hne) (hb ▸ he b.csum) (he b.csum))

/-- A sequence that has begun is at its end after as many events as it still asks for exactly when they are what it
asks for. -/
theorem done_eq_length_iff (es : List Event)
    (hfirst : ∀ e ∈ es, ∀ c i, endedOk e = some i → asks seq 0 c ≠ some i) (b : BootProgress)
    (hlen : b.done + es.length = seq.length) :
    (es.foldl (bootNext seq) b).done = seq.length ↔ Follows (seq.drop b.done) b.csum es := by
  induction es generalizing b with
  | nil =>
    have hb : b.done = seq.length := by simpa using hlen
    simp [hb, Follows]
  | cons e es ih =>
    obtain ⟨he, hes⟩ := List.forall_mem_cons.1 hfirst
    have hlt : b.done < seq.length := by simp at hlen; omega
    have hasks : asks seq b.done b.csum = seq[b.done].command b.csum := by simp [asks, hlt]
    rw [List.drop_eq_getElem_cons hlt, Follows, ← hasks, List.foldl_cons]
    by_cases hnext : ∃ i, endedOk e = some i ∧ asks seq b.done b.csum = some i
    · obtain ⟨i, hi, hask⟩ := hnext
      have hdone : bootNext seq b e = ⟨b.done + 1, e.csum⟩ := by rw [bootNext, bootDone_of_asked hi hask]
      rw [hdone, ih hes _ (by simp at hlen ⊢; omega)]
      exact ⟨fun h => ⟨⟨i, hi, hask⟩, h⟩, And.right⟩
    · have hdone : (bootNext seq b e).done = 0 :=
        bootDone_of_other hlt (fun i hi hask => hnext ⟨i, hi, hask⟩) (he b.csum)
      rw [done_eq_zero_of_no_first hne es hes _ hdone]
      exact ⟨fun h => absurd h hne.ne, fun h => absurd h.1 hnext⟩

end

/-- A block's events are its commands. -/
theorem follows_block {n : Nat} {vs : List Half} (hn : n + vs.length ≤ 128) (sts : List BootStep) (es : List Event)
    (x : Option Half) : Follows ((writeBlock (BitVec.ofNat 7 n) vs).map .issue ++ sts) x (blockEvents n vs x ++ es) ↔
      Follows sts x es := by
  induction vs generalizing n with
  | nil => rfl
  | cons v vs ih =>
    rw [List.length_cons] at hn
    rw [writeBlock_cons, blockEvents_cons (by omega), List.map_cons, List.cons_append, List.cons_append, Follows,
      ← ih (n := n + 1) (by omega)]
    exact and_iff_right ⟨_, endedOk_wrote _ _ _, rfl⟩

/-! ### The boot sequence -/

/-- The soft reset of R162, the sequence's first command. -/
def softReset : Instr := .write 0x00 0x789A

/-- The two locks that end the sequence. -/
def lockSteps (adjustmentFirst : Bool) : List BootStep :=
  if adjustmentFirst then [.issue (.write 0x30 0x8765), .issue (.write 0x20 0x8765)]
  else [.issue (.write 0x20 0x8765), .issue (.write 0x30 0x8765)]

/-- What R162 has after the soft reset, in either order of the locks. -/
def bootTail (p : Profile) (adjustmentFirst : Bool) : List BootStep :=
  .issue (.write 0x02 p.functionEnable) :: .issue (.write 0x03 p.sagThreshold) :: .issue (.write 0x20 0x5678) ::
    ((writeBlock cs1Base p.block1).map .issue ++ .issue .cs1 :: .installCsum 0x2C :: .issue (.write 0x30 0x5678) ::
      ((writeBlock cs2Base p.block2).map .issue ++ .issue .cs2 :: .installCsum 0x3B ::
        lockSteps adjustmentFirst))

theorem bootSequence_eq (p : Profile) (adjustmentFirst : Bool) :
    bootSequence p adjustmentFirst = .issue softReset :: bootTail p adjustmentFirst := by
  simp [bootSequence, bootTail, lockSteps, softReset]

/-- The events of the two locks. -/
def lockEvents (x2 : Half) (adjustmentFirst : Bool) : List Event :=
  if adjustmentFirst then [wrote 0x30 0x8765 .ok (some x2), wrote 0x20 0x8765 .ok (some x2)]
  else [wrote 0x20 0x8765 .ok (some x2), wrote 0x30 0x8765 .ok (some x2)]

/-- The events of R162's listing after the soft reset. -/
def bootTailEvents (p : Profile) (x : Option Half) (x1 x2 v1 v2 : Half) (adjustmentFirst : Bool) : List Event :=
  wrote 0x02 p.functionEnable .ok x :: wrote 0x03 p.sagThreshold .ok x :: wrote 0x20 0x5678 .ok x ::
    (blockEvents 0x21 p.block1 x ++ csEvent 0x08 x1 :: wrote 0x2C v1 .ok (some x1) :: wrote 0x30 0x5678 .ok (some x1) ::
      (blockEvents 0x31 p.block2 (some x1) ++ csEvent 0x09 x2 :: wrote 0x3B v2 .ok (some x2) ::
        lockEvents x2 adjustmentFirst))

theorem bootEvents_eq (p : Profile) (x : Option Half) (x1 x2 v1 v2 : Half) (adjustmentFirst : Bool) :
    bootEvents p x x1 x2 v1 v2 adjustmentFirst =
      wrote 0x00 0x789A .ok x :: bootTailEvents p x x1 x2 v1 v2 adjustmentFirst := by
  simp [bootEvents, bootTailEvents, lockEvents, wrote]

theorem follows_locks (x2 : Half) (adjustmentFirst other : Bool) :
    Follows (lockSteps other) (some x2) (lockEvents x2 adjustmentFirst) ↔ other = adjustmentFirst := by
  cases other <;> cases adjustmentFirst <;> simp [Follows, lockSteps, lockEvents, endedOk_wrote, BootStep.command]

/-- A block that does not begin at 0x00 has no soft reset among its commands. -/
theorem command_block_ne_softReset {n : Nat} {vs : List Half} (h0 : 0 < n) (hn : n + vs.length ≤ 128)
    (c : Option Half) :
    ∀ st ∈ (writeBlock (BitVec.ofNat 7 n) vs).map .issue, BootStep.command c st ≠ some softReset := by
  rintro _ hst hreset
  obtain ⟨i, hi, rfl⟩ := List.mem_map.1 hst
  obtain ⟨a, v, ha, rfl⟩ := mem_writeBlock hi hn
  obtain ⟨rfl, -⟩ := Instr.write.inj (Option.some.inj hreset)
  exact absurd ha (by simpa using h0.ne')

theorem endedOk_block_ne_softReset {n : Nat} {vs : List Half} (h0 : 0 < n) (hn : n + vs.length ≤ 128)
    (x : Option Half) : ∀ e ∈ blockEvents n vs x, endedOk e ≠ some softReset := by
  intro e he hreset
  obtain ⟨a, v, ha, -, rfl⟩ := mem_blockEvents he hn
  obtain ⟨rfl, -⟩ := Instr.write.inj (Option.some.inj ((endedOk_wrote a v x).symm.trans hreset))
  exact absurd ha (by simpa using h0.ne')

section
variable (p : Profile) (x : Option Half) (x1 x2 v1 v2 : Half) (adjustmentFirst other : Bool)

theorem length_bootTailEvents :
    (bootTailEvents p x x1 x2 v1 v2 adjustmentFirst).length = (bootTail p other).length := by
  have hlocks : (lockEvents x2 adjustmentFirst).length = (lockSteps other).length := by
    cases adjustmentFirst <;> cases other <;> rfl
  simp [bootTail, bootTailEvents, hlocks, length_blockEvents, length_writeBlock]

variable (h1 : p.block1.length = 11) (h2 : p.block2.length = 10)
include h1 h2

/-- The listing's events are the sequence's commands when the host copied what CSUM read and the locks have the
sequence's order. -/
theorem follows_bootTail : Follows (bootTail p other) x (bootTailEvents p x x1 x2 v1 v2 adjustmentFirst) ↔
    v1 = x1 ∧ v2 = x2 ∧ other = adjustmentFirst := by
  have hblock1 : ∀ sts es, Follows ((writeBlock cs1Base p.block1).map .issue ++ sts) x
      (blockEvents 0x21 p.block1 x ++ es) ↔ Follows sts x es := fun sts es =>
    follows_block (by rw [h1]; decide) sts es x
  have hblock2 : ∀ sts es, Follows ((writeBlock cs2Base p.block2).map .issue ++ sts) (some x1)
      (blockEvents 0x31 p.block2 (some x1) ++ es) ↔ Follows sts (some x1) es := fun sts es =>
    follows_block (by rw [h2]; decide) sts es (some x1)
  have hlocks := follows_locks x2 adjustmentFirst other
  simp [bootTail, bootTailEvents, Follows, hblock1, hblock2, hlocks, endedOk_wrote, endedOk_cs1, endedOk_cs2,
    BootStep.command, eq_comm]

/-- No command of the sequence but its first is the soft reset. -/
theorem command_bootTail_ne_softReset (c : Option Half) :
    ∀ st ∈ bootTail p other, st.command c ≠ some softReset := by
  have hblock1 : ∀ st ∈ (writeBlock cs1Base p.block1).map .issue, BootStep.command c st ≠ some softReset :=
    command_block_ne_softReset (by decide) (by rw [h1]; decide) c
  have hblock2 : ∀ st ∈ (writeBlock cs2Base p.block2).map .issue, BootStep.command c st ≠ some softReset :=
    command_block_ne_softReset (by decide) (by rw [h2]; decide) c
  have hlocks : ∀ st ∈ lockSteps other, BootStep.command c st ≠ some softReset := by
    cases other <;> simp [lockSteps, BootStep.command, softReset]
  simp only [bootTail, List.forall_mem_cons, List.forall_mem_append]
  refine ⟨?_, ?_, ?_, hblock1, ?_, ?_, ?_, hblock2, ?_, ?_, hlocks⟩ <;> simp [BootStep.command, softReset]

theorem asks_softReset_iff (k : Nat) (c : Option Half) :
    asks (bootSequence p other) k c = some softReset ↔ k = 0 := by
  rw [bootSequence_eq]
  cases k with
  | zero => simp [asks, BootStep.command]
  | succ k =>
    simp only [asks, List.getElem?_cons_succ, Nat.succ_ne_zero, iff_false, Option.bind_eq_some_iff, not_exists, not_and]
    exact fun st hst => command_bootTail_ne_softReset p other h1 h2 c st (List.mem_of_getElem? hst)

/-- No event of the listing but its first is the soft reset. -/
theorem endedOk_bootTailEvents_ne_softReset :
    ∀ e ∈ bootTailEvents p x x1 x2 v1 v2 adjustmentFirst, endedOk e ≠ some softReset := by
  have hblock1 := endedOk_block_ne_softReset (n := 0x21) (vs := p.block1) (by decide) (by omega) x
  have hblock2 := endedOk_block_ne_softReset (n := 0x31) (vs := p.block2) (by decide) (by omega) (some x1)
  have hlocks : ∀ e ∈ lockEvents x2 adjustmentFirst, endedOk e ≠ some softReset := by
    cases adjustmentFirst <;> simp [lockEvents, endedOk_wrote, softReset]
  simp only [bootTailEvents, List.forall_mem_cons, List.forall_mem_append]
  refine ⟨?_, ?_, ?_, hblock1, ?_, ?_, ?_, hblock2, ?_, ?_, hlocks⟩ <;>
    simp [endedOk_wrote, endedOk_cs1, endedOk_cs2, softReset]

/-- Whatever came before, the listing ends the sequence exactly when it follows it. -/
theorem done_bootEvents_iff (h : List Event) :
    (bootProgress (bootSequence p other) (h ++ bootEvents p x x1 x2 v1 v2 adjustmentFirst)).done =
      (bootSequence p other).length ↔ v1 = x1 ∧ v2 = x2 ∧ other = adjustmentFirst := by
  have hfirst : ∀ e ∈ bootTailEvents p x x1 x2 v1 v2 adjustmentFirst, ∀ c i,
      endedOk e = some i → asks (bootSequence p other) 0 c ≠ some i := fun e he c i hi hask =>
    endedOk_bootTailEvents_ne_softReset p x x1 x2 v1 v2 adjustmentFirst h1 h2 e he
      (hi.trans (hask.symm.trans ((asks_softReset_iff p other h1 h2 0 c).2 rfl)))
  have hstart : bootNext (bootSequence p other) (bootProgress (bootSequence p other) h) (wrote 0x00 0x789A .ok x) =
      ⟨1, x⟩ :=
    congrArg (BootProgress.mk · x) (bootDone_of_first (endedOk_wrote _ _ _) (asks_softReset_iff p other h1 h2))
  have hlen : 1 + (bootTailEvents p x x1 x2 v1 v2 adjustmentFirst).length = (bootSequence p other).length := by
    rw [bootSequence_eq, length_bootTailEvents (other := other), List.length_cons, Nat.add_comm]
  rw [bootProgress, List.foldl_append, ← bootProgress, bootEvents_eq, List.foldl_cons, hstart,
    done_eq_length_iff (by omega) _ hfirst _ hlen, bootSequence_eq]
  exact follows_bootTail p x x1 x2 v1 v2 adjustmentFirst other h1 h2

end

/-- The profile's blocks fill their ranges, and one of the two orders has been run to its end. -/
theorem initComplete_iff (p : Profile) (h : List Event) : initComplete p h = true ↔
    (p.block1.length = 11 ∧ p.block2.length = 10) ∧
      ∃ o, (bootProgress (bootSequence p o) h).done = (bootSequence p o).length := by
  simp [initComplete, cs1Count, cs2Count]

/-- Settles O50: an error undoes the progress in both orders of the sequence, and neither is empty. -/
theorem errorUndoesInitialization : Obligations.ErrorUndoesInitialization := by
  intro p h w c x hc
  rw [Bool.eq_false_iff, ne_eq, initComplete_iff]
  rintro ⟨-, o, hdone⟩
  have hnone : endedOk ⟨w, c, x⟩ = none := endedOk_of_error hc
  rw [bootProgress_append, bootNext, bootDone_of_none hnone, bootSequence_eq] at hdone
  cases hdone

/-! ### The checksum duty -/

/-- Nothing is due in the range, nothing of it failed, and no wrong value was installed (R166). -/
def Settled (d : ChecksumTrack) : Prop := d.owed = false ∧ d.broken = false ∧ d.wrong = false

theorem checksumDuty_iff (h : List Event) :
    checksumDuty h = true ↔ Settled (checksumTrack range1 h) ∧ Settled (checksumTrack range2 h) := by
  simp [checksumDuty, checksumSettled, Settled, and_assoc]

theorem checksumTrack_history (k : ChecksumRange) (h es : List Event) :
    checksumTrack k (h ++ es) = es.foldl (checksumNext k) (checksumTrack k h) := List.foldl_append ..

/-- The two ranges, each with its command's opcode and the other range (R91, R92). -/
def IsRange (op : Nat) (k other : ChecksumRange) : Prop :=
  (op = 0x08 ∧ k = range1 ∧ other = range2) ∨ (op = 0x09 ∧ k = range2 ∧ other = range1)

theorem isRange1 : IsRange 0x08 range1 range2 := .inl ⟨rfl, rfl, rfl⟩

theorem isRange2 : IsRange 0x09 range2 range1 := .inr ⟨rfl, rfl, rfl⟩

theorem holds_iff (k : ChecksumRange) (a : Addr) : k.holds a = true ↔ k.lo ≤ a.toNat ∧ a.toNat ≤ k.hi := by
  simp [ChecksumRange.holds]

/-- A register the range's duty is not about: no register of the range, nor the one of its checksum, nor the reset's. -/
def outside (k : ChecksumRange) (a : Addr) : Bool := a != 0 && !k.holds a && a != k.target

theorem outside_each_other : ∀ a : Addr,
    (range1.holds a = true ∨ a = range1.target → outside range2 a = true) ∧
    (range2.holds a = true ∨ a = range2.target → outside range1 a = true) := by decide

theorem holds_ne_zero : ∀ a : Addr, (range1.holds a = true → a ≠ 0) ∧ (range2.holds a = true → a ≠ 0) := by decide

section
variable {op : Nat} {k other : ChecksumRange} (hk : IsRange op k other)
include hk

theorem IsRange.duty_iff (h : List Event) :
    checksumDuty h = true ↔ Settled (checksumTrack k h) ∧ Settled (checksumTrack other h) := by
  obtain ⟨-, rfl, rfl⟩ | ⟨-, rfl, rfl⟩ := hk
  · exact checksumDuty_iff h
  · exact (checksumDuty_iff h).trans And.comm

/-- What the one range is about, the other is not. -/
theorem IsRange.outside_other {a : Addr} (ha : k.holds a = true ∨ a = k.target) : outside other a = true := by
  obtain ⟨-, rfl, rfl⟩ | ⟨-, rfl, rfl⟩ := hk
  · exact (outside_each_other a).1 ha
  · exact (outside_each_other a).2 ha

theorem IsRange.ne_zero {a : Addr} (ha : k.holds a = true) : a ≠ 0 := by
  obtain ⟨-, rfl, -⟩ | ⟨-, rfl, -⟩ := hk
  · exact (holds_ne_zero a).1 ha
  · exact (holds_ne_zero a).2 ha

theorem IsRange.target : k.target ≠ 0 ∧ k.holds k.target = false := by
  obtain ⟨-, rfl, -⟩ | ⟨-, rfl, -⟩ := hk <;> decide

end

/-! ### One event of a range -/

theorem checksumNext_wrote (k : ChecksumRange) (d : ChecksumTrack) (a : Addr) (v : Half) (c : Code) (x : Option Half) :
    checksumNext k d (wrote a v c x) = trackWrite k a v c d := by
  rw [checksumNext, eventInstr_wrote]
  rfl

/-- The event leaves the range as it stands. -/
def Unseen (k : ChecksumRange) (e : Event) : Prop := ∀ d, checksumNext k d e = d

/-- The event makes a new result due, and breaks nothing. -/
def Renews (k : ChecksumRange) (e : Event) : Prop :=
  ∀ d, checksumNext k d e = { d with result := none, owed := true }

theorem unseen_wrote {k : ChecksumRange} {a : Addr} (ha : outside k a = true) (v : Half) (c : Code) (x : Option Half) :
    Unseen k (wrote a v c x) := fun d => by
  obtain ⟨⟨h0, hout⟩, htarget⟩ : (a ≠ 0 ∧ k.holds a = false) ∧ a ≠ k.target := by simpa [outside] using ha
  rw [checksumNext_wrote, trackWrite_elsewhere k a v c d h0 hout htarget]

/-- The soft reset makes no result due, and takes away only what failed (R163). -/
theorem settled_softReset {k : ChecksumRange} {d : ChecksumTrack} (hd : Settled d) (x : Option Half) :
    Settled (checksumNext k d (wrote 0x00 0x789A .ok x)) := by
  obtain ⟨howed, -, hwrong⟩ := hd
  rw [checksumNext_wrote, trackWrite, if_pos ⟨rfl, rfl, rfl⟩]
  exact ⟨howed, rfl, hwrong⟩

section
variable {op : Nat} {k other : ChecksumRange} (hk : IsRange op k other)
include hk

theorem IsRange.renews_wrote {a : Addr} (ha : k.holds a = true) (v : Half) (x : Option Half) :
    Renews k (wrote a v .ok x) := fun d => by
  rw [checksumNext_wrote, trackWrite_inside k a v .ok d (hk.ne_zero ha) ha]
  simp

/-- A CS command that ended OK gives its own range's result and is nothing to the other (R91, R92). -/
theorem IsRange.next_csEvent (y : Half) : (∀ d, checksumNext k d (csEvent op y) = { d with result := some y }) ∧
    Unseen other (csEvent op y) := by
  obtain ⟨rfl, rfl, rfl⟩ | ⟨rfl, rfl, rfl⟩ := hk
  · exact ⟨fun d => by rw [checksumNext, eventInstr_cs1]; rfl, fun d => by rw [checksumNext, eventInstr_cs1]; rfl⟩
  · exact ⟨fun d => by rw [checksumNext, eventInstr_cs2]; rfl, fun d => by rw [checksumNext, eventInstr_cs2]; rfl⟩

/-- Where nothing of the range failed, a WRITE of its checksum register settles it when it carries the result. -/
theorem IsRange.settled_install_iff {d : ChecksumTrack} (hbroken : d.broken = false) (hwrong : d.wrong = false)
    (u : Half) (x : Option Half) :
    Settled (checksumNext k d (wrote k.target u .ok x)) ↔ d.result = some u := by
  obtain ⟨h0, hout⟩ := hk.target
  rw [checksumNext_wrote, trackWrite_target k u .ok d h0 hout]
  simp [Settled, hbroken, hwrong]

end

/-! ### A history for a range -/

theorem foldl_unseen {k : ChecksumRange} {es : List Event} (h : ∀ e ∈ es, Unseen k e) (d : ChecksumTrack) :
    es.foldl (checksumNext k) d = d := by
  induction es with
  | nil => rfl
  | cons e es ih =>
    obtain ⟨he, hes⟩ := List.forall_mem_cons.1 h
    rw [List.foldl_cons, he, ih hes]

theorem foldl_renews {k : ChecksumRange} {es : List Event} (hne : es ≠ []) (h : ∀ e ∈ es, Renews k e)
    (d : ChecksumTrack) : es.foldl (checksumNext k) d = { d with result := none, owed := true } := by
  induction es generalizing d with
  | nil => exact absurd rfl hne
  | cons e es ih =>
    obtain ⟨he, hes⟩ := List.forall_mem_cons.1 h
    rw [List.foldl_cons, he]
    cases es with
    | nil => rfl
    | cons e' es => rw [ih nofun hes]

/-- WRITEs to the range, its CS command, and a WRITE of its checksum register: settled when that carries the result. -/
theorem IsRange.settled_calibration_iff {op : Nat} {k other : ChecksumRange} (hk : IsRange op k other)
    {d : ChecksumTrack} (hd : Settled d) {es : List Event} (hne : es ≠ []) (hes : ∀ e ∈ es, Renews k e) (y u : Half)
    (x : Option Half) {after : List Event} (hafter : ∀ e ∈ after, Unseen k e) :
    Settled ((es ++ csEvent op y :: wrote k.target u .ok x :: after).foldl (checksumNext k) d) ↔ u = y := by
  obtain ⟨-, hbroken, hwrong⟩ := hd
  rw [List.foldl_append, List.foldl_cons, List.foldl_cons, foldl_unseen hafter, foldl_renews hne hes,
    (hk.next_csEvent y).1]
  refine (hk.settled_install_iff (d := ⟨some y, true, d.broken, d.wrong⟩) hbroken hwrong u x).trans ?_
  simp [eq_comm]

/-- Settles O51: the range's own track decides the duty, the other range sees none of the three events. -/
theorem rangeWriteMakesTheChecksumDue : Obligations.RangeWriteMakesTheChecksumDue := by
  intro h op lo hi target a v u y c x x' x'' hrange hlo hhi
  obtain ⟨k, other, hk, rfl, ha⟩ : ∃ k other, IsRange op k other ∧ target = k.target.toNat ∧ k.holds a = true := by
    obtain ⟨rfl, rfl, rfl, rfl⟩ | ⟨rfl, rfl, rfl, rfl⟩ := hrange
    · exact ⟨range1, range2, isRange1, rfl, (holds_iff range1 a).2 ⟨hlo, hhi⟩⟩
    · exact ⟨range2, range1, isRange2, rfl, (holds_iff range2 a).2 ⟨hlo, hhi⟩⟩
  change checksumDuty (h ++ [wrote a v c x]) = false ∧
    checksumDuty (h ++ [wrote a v c x, wrote k.target u .ok x']) = false ∧
    (checksumDuty h = true →
      (checksumDuty (h ++ [wrote a v .ok x, csEvent op y, wrote k.target u .ok x'']) = true ↔ u = y))
  have hdue := fun d => (checksumNext_wrote k d a v c x).trans (trackWrite_inside k a v c d (hk.ne_zero ha) ha)
  refine ⟨?due, ?noCs, fun hduty => ?installed⟩
  case due =>
    rw [Bool.eq_false_iff, ne_eq, hk.duty_iff, checksumTrack_history, List.foldl_cons, hdue]
    rintro ⟨⟨howed, -⟩, -⟩
    cases howed
  case noCs =>
    obtain ⟨h0, hout⟩ := hk.target
    rw [Bool.eq_false_iff, ne_eq, hk.duty_iff, checksumTrack_history, List.foldl_cons, hdue, List.foldl_cons,
      checksumNext_wrote, trackWrite_target k u .ok _ h0 hout]
    rintro ⟨⟨-, -, hwrong⟩, -⟩
    simp at hwrong
  case installed =>
    obtain ⟨hsettled, hother⟩ := (hk.duty_iff h).1 hduty
    have hunseen : ∀ e ∈ [wrote a v .ok x, csEvent op y, wrote k.target u .ok x''], Unseen other e := by
      simp [unseen_wrote (hk.outside_other (.inl ha)), unseen_wrote (hk.outside_other (.inr rfl)),
        (hk.next_csEvent y).2]
    have hown := hk.settled_calibration_iff hsettled (es := [wrote a v .ok x]) nofun
      (by simp [hk.renews_wrote ha]) y u x'' (after := []) nofun
    rw [hk.duty_iff, checksumTrack_history, checksumTrack_history, foldl_unseen hunseen]
    exact (and_iff_left hother).trans hown

/-! ### The boot sequence for both ranges -/

/-- A block whose registers are the range's makes its result due, and the other range does not see it. -/
theorem renews_block {op : Nat} {k other : ChecksumRange} (hk : IsRange op k other) {n : Nat} {vs : List Half}
    (hn : n + vs.length ≤ 128) (hin : ∀ a : Addr, n ≤ a.toNat → a.toNat < n + vs.length → k.holds a = true)
    (x : Option Half) :
    (∀ e ∈ blockEvents n vs x, Renews k e) ∧ ∀ e ∈ blockEvents n vs x, Unseen other e := by
  refine ⟨fun e he => ?_, fun e he => ?_⟩ <;> obtain ⟨a, v, hlo, hhi, rfl⟩ := mem_blockEvents he hn
  · exact hk.renews_wrote (hin a hlo hhi) v x
  · exact unseen_wrote (hk.outside_other (.inl (hin a hlo hhi))) v .ok x

/-- After the soft reset and whatever the range does not see, calibrating the range settles it when the result is
installed. -/
theorem IsRange.settled_history_iff {op : Nat} {k other : ChecksumRange} (hk : IsRange op k other) {h : List Event}
    (hh : Settled (checksumTrack k h)) (x : Option Half) {before : List Event} (hbefore : ∀ e ∈ before, Unseen k e)
    {es : List Event} (hne : es ≠ []) (hes : ∀ e ∈ es, Renews k e) (y u : Half) (x' : Option Half) {after : List Event}
    (hafter : ∀ e ∈ after, Unseen k e) :
    Settled (checksumTrack k (h ++ wrote 0x00 0x789A .ok x ::
      (before ++ (es ++ csEvent op y :: wrote k.target u .ok x' :: after)))) ↔ u = y := by
  rw [checksumTrack_history, List.foldl_cons, List.foldl_append, foldl_unseen hbefore]
  exact hk.settled_calibration_iff (settled_softReset hh x) hne hes y u x' hafter

theorem blockEvents_ne_nil {n : Nat} {vs : List Half} (h : 0 < vs.length) (x : Option Half) : blockEvents n vs x ≠ [] :=
  List.ne_nil_of_length_pos (by rwa [length_blockEvents])

theorem unseen_locks {k : ChecksumRange} (h20 : outside k 0x20 = true) (h30 : outside k 0x30 = true) (x2 : Half)
    (adjustmentFirst : Bool) : ∀ e ∈ lockEvents x2 adjustmentFirst, Unseen k e := by
  have hlock20 := unseen_wrote h20 0x8765 .ok (some x2)
  have hlock30 := unseen_wrote h30 0x8765 .ok (some x2)
  cases adjustmentFirst
  · exact List.forall_mem_cons.2 ⟨hlock20, List.forall_mem_singleton.2 hlock30⟩
  · exact List.forall_mem_cons.2 ⟨hlock30, List.forall_mem_singleton.2 hlock20⟩

/-- The block that the boot sequence writes to 0x21 to 0x2B, for the two ranges. -/
theorem block1_events {vs : List Half} (h : vs.length = 11) (x : Option Half) :
    (∀ e ∈ blockEvents 0x21 vs x, Renews range1 e) ∧ ∀ e ∈ blockEvents 0x21 vs x, Unseen range2 e :=
  renews_block isRange1 (n := 0x21) (by omega)
    (fun a hlo hhi => (holds_iff range1 a).2 ⟨hlo, show a.toNat ≤ 0x2B by omega⟩) x

/-- The block that the boot sequence writes to 0x31 to 0x3A, for the two ranges. -/
theorem block2_events {vs : List Half} (h : vs.length = 10) (x : Option Half) :
    (∀ e ∈ blockEvents 0x31 vs x, Renews range2 e) ∧ ∀ e ∈ blockEvents 0x31 vs x, Unseen range1 e :=
  renews_block isRange2 (n := 0x31) (by omega)
    (fun a hlo hhi => (holds_iff range2 a).2 ⟨hlo, show a.toNat ≤ 0x3A by omega⟩) x

section
variable (p : Profile) (x : Option Half) (x1 x2 v1 v2 : Half) (adjustmentFirst : Bool)
  (h1 : p.block1.length = 11) (h2 : p.block2.length = 10) {h : List Event}
include h1 h2

/-- The first range is calibrated by block 1, CS1 and 0x2C; it sees nothing else of the listing. -/
theorem settled_range1_iff (hh : Settled (checksumTrack range1 h)) :
    Settled (checksumTrack range1 (h ++ bootEvents p x x1 x2 v1 v2 adjustmentFirst)) ↔ v1 = x1 := by
  obtain ⟨hown, -⟩ := block1_events h1 x
  obtain ⟨-, hother⟩ := block2_events h2 (some x1)
  have hunseen := fun {a : Addr} (ha : outside range1 a = true) v x => unseen_wrote ha v .ok x
  rw [bootEvents_eq]
  refine isRange1.settled_history_iff hh x
    (before := [wrote 0x02 p.functionEnable .ok x, wrote 0x03 p.sagThreshold .ok x, wrote 0x20 0x5678 .ok x])
    ?before (blockEvents_ne_nil (by omega) x) hown x1 v1 (some x1)
    (after := wrote 0x30 0x5678 .ok (some x1) :: (blockEvents 0x31 p.block2 (some x1) ++ csEvent 0x09 x2 ::
      wrote 0x3B v2 .ok (some x2) :: lockEvents x2 adjustmentFirst)) ?after
  case before =>
    simp only [List.forall_mem_cons]
    exact ⟨hunseen rfl _ _, hunseen rfl _ _, hunseen rfl _ _, nofun⟩
  case after =>
    simp only [List.forall_mem_cons, List.forall_mem_append]
    exact ⟨hunseen rfl _ _, hother, (isRange2.next_csEvent x2).2, hunseen rfl _ _, unseen_locks rfl rfl x2 _⟩

/-- The second range is calibrated by block 2, CS2 and 0x3B; it sees nothing else of the listing. -/
theorem settled_range2_iff (hh : Settled (checksumTrack range2 h)) :
    Settled (checksumTrack range2 (h ++ bootEvents p x x1 x2 v1 v2 adjustmentFirst)) ↔ v2 = x2 := by
  obtain ⟨-, hother⟩ := block1_events h1 x
  obtain ⟨hown, -⟩ := block2_events h2 (some x1)
  have hunseen := fun {a : Addr} (ha : outside range2 a = true) v x => unseen_wrote ha v .ok x
  have htail : bootTailEvents p x x1 x2 v1 v2 adjustmentFirst =
      ([wrote 0x02 p.functionEnable .ok x, wrote 0x03 p.sagThreshold .ok x, wrote 0x20 0x5678 .ok x] ++
        (blockEvents 0x21 p.block1 x ++
          [csEvent 0x08 x1, wrote 0x2C v1 .ok (some x1), wrote 0x30 0x5678 .ok (some x1)])) ++
      (blockEvents 0x31 p.block2 (some x1) ++ csEvent 0x09 x2 :: wrote 0x3B v2 .ok (some x2) ::
        lockEvents x2 adjustmentFirst) := by simp [bootTailEvents]
  rw [bootEvents_eq, htail]
  refine isRange2.settled_history_iff hh x ?before (blockEvents_ne_nil (by omega) _) hown x2 v2 (some x2)
    (unseen_locks rfl rfl x2 _)
  simp only [List.forall_mem_cons, List.forall_mem_append]
  exact ⟨⟨hunseen rfl _ _, hunseen rfl _ _, hunseen rfl _ _, nofun⟩, hother,
    (isRange1.next_csEvent x1).2, hunseen rfl _ _, hunseen rfl _ _, nofun⟩

end

/-- Settles O49: of the two orders of the sequence the listing follows its own, and it calibrates each range in turn. -/
theorem bootSequenceInitializes : Obligations.BootSequenceInitializes := by
  intro p h x x1 x2 v1 v2 adjustmentFirst h1 h2
  refine ⟨?complete, fun hduty => ?duty⟩
  case complete =>
    rw [initComplete_iff]
    simp only [done_bootEvents_iff p x x1 x2 v1 v2 adjustmentFirst _ h1 h2]
    simp [h1, h2]
  case duty =>
    obtain ⟨hrange1, hrange2⟩ := (checksumDuty_iff h).1 hduty
    rw [checksumDuty_iff]
    exact and_congr (settled_range1_iff p x x1 x2 v1 v2 adjustmentFirst h1 h2 hrange1)
      (settled_range2_iff p x x1 x2 v1 v2 adjustmentFirst h1 h2 hrange2)

end Sys2Proof.Proofs

/-! PROOFS. Encoder and decoder (30_encoding.md sections 1 and 2): each undoes the other, row by row of R68 and by R63
for frames, and the written words of the test vectors are encodings. -/

namespace Sys2Proof.Proofs

open Sys2Proof.Machine

/-! ### The rows of R68 -/

/-- Each row's OP value is listed as that row's: no two rows share one. -/
theorem opClass_opOf (c : OpClass) : opClass (opOf c) = some c := by
  cases c with
  | meas k => cases k <;> rfl
  | conv k => cases k <;> rfl
  | _ => rfl

/-- A row's instruction takes no operand from a field the row does not use. -/
theorem classInstr_usedFields (a : Addr) (v : Half) (c : OpClass) :
    classInstr (if usesAddr c then a else 0) (if usesData c then v else 0) c = classInstr a v c := by
  cases c <;> rfl

/-- A word with a row's OP, whose other fields are 0 where the row does not use them, passes R69's checks. -/
theorem decodeCommand_commandWord {a : Addr} {v : Half} {c : OpClass} (ha : usesAddr c = true ∨ a = 0)
    (hv : usesData c = true ∨ v = 0) : decodeCommand (commandWord (opOf c) a v) = .ok (classInstr a v c) := by
  have haddr : (!usesAddr c && a != 0) = false := by obtain h | h := ha <;> simp [h]
  have hdata : (!usesData c && v != 0) = false := by obtain h | h := hv <;> simp [h]
  simp only [decodeCommand, cmdOp_commandWord, cmdRsv_commandWord, cmdAddr_commandWord, cmdData_commandWord,
    opClass_opOf, haddr, hdata, Bool.false_eq_true, if_false]

/-- The encoder leaves at 0 the fields the decoder wants at 0, and puts the operands where the decoder reads them. -/
theorem decode_encode_classInstr (a : Addr) (v : Half) (c : OpClass) :
    decode (encode (classInstr a v c)) = .ok (classInstr a v c) := by
  have ha : usesAddr c = true ∨ (if usesAddr c then a else 0) = 0 := by cases usesAddr c <;> simp
  have hv : usesData c = true ∨ (if usesData c then v else 0) = 0 := by cases usesData c <;> simp
  rw [encode_classInstr, decode, decodeCommand_commandWord ha hv, classInstr_usedFields]

/-! ### Both directions -/

/-- Settles O1: an instruction is a row of R68 with its operands, or a frame, whose header gives back DIR and ADDR. -/
theorem decodeOfEncode : Obligations.DecodeOfEncode :=
  microOf_elim (P := fun i _ => decode (encode i) = .ok i)
    (hread := fun a => decode_encode_classInstr a 0 .read)
    (hwrite := fun a v => decode_encode_classInstr a v .write)
    (hcs1 := decode_encode_classInstr 0 0 .cs1)
    (hcs2 := decode_encode_classInstr 0 0 .cs2)
    (hmeas := fun k => decode_encode_classInstr 0 0 (.meas k))
    (hconv := fun r k => decode_encode_classInstr 0 r (.conv k))
    (hframeRead := fun a => congrArg Except.ok (decodeFrame_read a 0))
    (hframeWrite := fun a v => congrArg Except.ok (decodeFrame_write a v))

/-- Settles O2: R69's checks leave no bit of a decodable word that its instruction does not determine. -/
theorem encodeOfDecodedWord : Obligations.EncodeOfDecodedWord := fun _ _ => encode_of_decodeCommand

/-- Settles O4: the legal words are the encodings of their instructions; each illegal one fails a check of its own. -/
theorem writtenWordsDecode : Obligations.WrittenWordsDecode :=
  ⟨decodeOfEncode (.read 0x03), decodeOfEncode (.write 0x03 0x1234), decodeOfEncode .cs1, decodeOfEncode .cs2,
    decodeOfEncode .measV, decodeOfEncode .measERF, decodeOfEncode (.convPF 0x8032), decodeOfEncode (.convERA 0xFFFF),
    decodeOfEncode (.frameRead 0x49), decodeOfEncode (.frameWrite 0x20 0x5678), rfl, rfl, rfl, rfl⟩

end Sys2Proof.Proofs
